-- ==== Sys2Proof/Word.lean ====
section
/-! DEFINITION. The word types of the VDP core (spec/00_scope.md rule R6: bit 0 is the least significant bit, `uN` is
unsigned, there is no signed state). -/

namespace Sys2Proof

/-- `u8`: a register, a VRAM or CRAM byte, a port byte. -/
abbrev Byte := BitVec 8

/-- `u14`: the VRAM/CRAM address of the port protocol (R38). Addition on it wraps modulo 0x4000 (R64). -/
abbrev VAddr := BitVec 14

/-- A 4-bit palette index (R45, R100). -/
abbrev PalIdx := BitVec 4

end Sys2Proof
end

