-- ==== Sys2Proof/Config.lean ====
section
/-! DEFINITION. The implementation parameters of spec/00_scope.md rule R5. Numbers the document fixes are plain
constants; every parameter the spec leaves OPEN or calls data (`parameter` in spec/93_implementation_defined.md Part 1)
is a field of `Params`, an argument of the model: no statement can lean on its default. -/

namespace Sys2Proof.Config

/-! ### Numbers fixed by the document (R5) -/

/-- Bytes of VRAM (R5, R43). -/
abbrev vramSize : Nat := 16384

/-- Bytes of CRAM storage; they exist on both variants (R44). -/
abbrev cramStorage : Nat := 64

/-- `CRAM_SIZE`: bytes of CRAM reachable (R5): 32 on Master System, 64 on Game Gear. -/
def cramSize (gameGear : Bool) : Nat := if gameGear then 64 else 32

/-- `NUM_REGS`: registers that exist, indices 0..10 (R5, R20). -/
abbrev numRegs : Nat := 11

/-- `LINES_PER_FRAME` (R5, R174). -/
def linesPerFrame (pal : Bool) : Nat := if pal then 313 else 262

/-- `ACTIVE_END`: first line after the active display and the frame-interrupt line (R5). -/
abbrev activeEnd : Nat := 192

/-- Lines on which the top-two-rows-freeze bit acts are those below this one (R192). -/
abbrev freezeLines : Nat := 16

/-- `MAX_SPRITES_PER_LINE` (R5, R214). -/
abbrev maxSpritesPerLine : Nat := 8

/-- `NUM_SPRITES`: entries of the sprite attribute table (R5). -/
abbrev numSprites : Nat := 64

/-- The Y byte that ends the sprite list in 192-line mode (R101, R212). -/
abbrev satTerminator : Byte := 0xD0#8

/-- `GG_WINDOW`: first and last visible line, first and last visible column on Game Gear (R5, R236). -/
abbrev ggFirstLine : Nat := 24
/-- See `ggFirstLine`. -/
abbrev ggLastLine : Nat := 167
/-- See `ggFirstLine`. -/
abbrev ggFirstColumn : Nat := 48
/-- See `ggFirstLine`. -/
abbrev ggLastColumn : Nat := 207

/-- `FB_W` (R5). -/
def fbWidth (gameGear : Bool) : Nat := if gameGear then 160 else 256

/-- `FB_H` (R5). -/
def fbHeight (gameGear : Bool) : Nat := if gameGear then 144 else 192

/-! ### Open parameters -/

/-- One V-counter table per NTSC/PAL and SMS/GG pair, entry `line` at position `line` (R168, R169: "expose the table
as data"). -/
structure VcTables where
  smsNtsc : List Byte
  smsPal  : List Byte
  ggNtsc  : List Byte
  ggPal   : List Byte
deriving DecidableEq, Repr

/-- The parameters the spec leaves open (R5; spec/93_implementation_defined.md U4, U8, U9, U11, U12; decisions D3, D4,
D7, D10, D11, D13). -/
structure Params where
  /-- `CPL`, CLOCK steps of a line without the fractional adjustment (D3, U8). -/
  cpl            : Nat
  /-- `FRAC_NUM` (D4, U11). -/
  fracNum        : Nat
  /-- `FRAC_DEN` (D4, U11). -/
  fracDen        : Nat
  /-- `HBLANK_CYCLES` (D10, U12). -/
  hblankCycles   : Nat
  /-- `DOTS_PER_LINE` (D11). -/
  dotsPerLine    : Nat
  /-- `HC_TABLE`, entry `dot` at position `dot` (D11). -/
  hcTable        : List Byte
  /-- `VC_TABLE` (D13, U4). -/
  vcTables       : VcTables
  /-- `BG_ROWS_TALL`, name-table rows with the tall-map bit set (U9). -/
  bgRowsTall     : Nat
  /-- `BG_ROWS_NORMAL`, name-table rows with the tall-map bit clear (U9). -/
  bgRowsNormal   : Nat
  /-- `LC_LAST_DEC_LINE`, last line at whose end the line counter decrements (D7). -/
  lcLastDecLine  : Nat
deriving DecidableEq, Repr

/-- The table the straps select (R168). -/
def VcTables.select (t : VcTables) (pal gameGear : Bool) : List Byte :=
  match pal, gameGear with
  | false, false => t.smsNtsc
  | true,  false => t.smsPal
  | false, true  => t.ggNtsc
  | true,  true  => t.ggPal

/-! ### The defaults of R5 -/

/-- Default NTSC table of R169: `line` up to 218, then `line - 6`. -/
def vcNtsc : List Byte := (List.range 262).map fun l => BitVec.ofNat 8 (if l ≤ 218 then l else l - 6)

/-- Default PAL table of R169: `line` up to 242, then `line - 57`. -/
def vcPal : List Byte := (List.range 313).map fun l => BitVec.ofNat 8 (if l ≤ 242 then l else l - 57)

/-- Default H-counter table of R171. -/
def hcDefault : List Byte :=
  (List.range 342).map fun d => BitVec.ofNat 8 (if d ≤ 295 then d >>> 1 else 0xE9 + ((d - 296) >>> 1))

/-- The default parameters of R5. -/
def Params.default : Params where
  cpl           := 228
  fracNum       := 0
  fracDen       := 1
  hblankCycles  := 57
  dotsPerLine   := 342
  hcTable       := hcDefault
  vcTables      := { smsNtsc := vcNtsc, smsPal := vcPal, ggNtsc := vcNtsc, ggPal := vcPal }
  bgRowsTall    := 28
  bgRowsNormal  := 32
  lcLastDecLine := 191

end Sys2Proof.Config
end

