-- ==== Sys2Proof/Syntax.lean ====
section
/-! DEFINITION. The operations of the block as syntax: one constructor per row of spec/opcode_table.json, the eleven step
labels of format EV (spec/30_encoding.md R90) and the four command words of format CW (R93). -/

namespace Sys2Proof

/-- An operation. The block has no instruction set (R1); its "instructions" are the step labels and the command words
(R109). Every operand's range is its type, so no ill-formed operand can be written. -/
inductive Instr where
  /-- EV, rst = 1: RESET(game_gear, pal) (R281). -/
  | reset (gameGear pal : Bool)
  /-- EV, th = 1: LATCHH (R172). -/
  | latchH
  /-- EV, cs = 0: CLOCK (R150). -/
  | clock
  /-- EV, write, a = 0: WriteData(d) (R128). -/
  | writeData (d : Byte)
  /-- EV, write, a = 1: WriteControl(d) (R122, R123). -/
  | writeControl (d : Byte)
  /-- EV, write, a = 2: reserved (R134). -/
  | reservedW2 (d : Byte)
  /-- EV, write, a = 3: reserved (R134). -/
  | reservedW3 (d : Byte)
  /-- EV, read, a = 0: GetDataPort (R129). -/
  | getDataPort
  /-- EV, read, a = 1: GetStatusFlags (R130). -/
  | getStatusFlags
  /-- EV, read, a = 2: GetVCounter (R132). -/
  | getVCounter
  /-- EV, read, a = 3: GetHCounter (R133). -/
  | getHCounter
  /-- CW, code 0: addr = cw[13:0] (R124). -/
  | cmdReadVram (addr : VAddr)
  /-- CW, code 1: addr = cw[13:0] (R127). -/
  | cmdWriteVram (addr : VAddr)
  /-- CW, code 2: `unused` = cw[13:12] (ignored for the index, R97; part of addr, R95), idx = cw[11:8], data = cw[7:0]
  (R125). -/
  | cmdWriteReg (unused : BitVec 2) (idx : BitVec 4) (data : Byte)
  /-- CW, code 3: addr = cw[13:0] (R131). -/
  | cmdWriteCram (addr : VAddr)
deriving DecidableEq, Repr

/-- What the pins carry in one step (R90): the 6-bit step label, the data byte sampled with it, and the two straps that
a RESET samples. -/
structure PinSample where
  ev       : BitVec 6
  d        : Byte := 0
  gameGear : Bool := false
  pal      : Bool := false
deriving DecidableEq, Repr

/-- An encoded operation: a pin sample (format EV) or a completed command word (format CW), the two formats of R109. -/
inductive Encoded where
  | ev (p : PinSample)
  | cw (w : BitVec 16)
deriving DecidableEq, Repr

end Sys2Proof
end

