-- ==== Sys2Proof/Machine/State.lean ====
section
/-! DEFINITION. The state of the block: every element of spec/10_state.md, the frame buffer of R46 as an output memory, the
outputs of the last step (R9), the open parameters (R5) and the step labels still to come (R9, R90). Plain data. -/

namespace Sys2Proof.Machine

open Sys2Proof.Config

/-- The command code `code`, a u2 (R38, R92). -/
inductive Code where
  | readVram | writeVram | writeReg | writeCram
deriving DecidableEq, Repr

/-- The command latch, `{ Empty, HalfFull(u8) }` (R37). -/
inductive Latch where
  | empty
  | halfFull (lo : Byte)
deriving DecidableEq, Repr

/-- The three status flags (R35): `frame_irq` bit 7, `sprite_overflow` bit 6, `sprite_collision` bit 5. -/
structure Status where
  frameIrq        : Bool := false
  spriteOverflow  : Bool := false
  spriteCollision : Bool := false
deriving DecidableEq, Repr

/-- One slot of the info buffer (R45, R103). -/
structure Slot where
  bgIdx  : PalIdx := 0
  bgBank : Bool := false
  bgPrio : Bool := false
  spr    : Bool := false
  sprIdx : PalIdx := 0
deriving DecidableEq, Repr, Inhabited

/-- A frame-buffer word as the tuple (R, G, B, A) (R106). -/
structure Rgba where
  r : Byte
  g : Byte
  b : Byte
  a : Byte
deriving DecidableEq, Repr

/-- The events a step emits (R9, R165, R256). -/
inductive Event where
  | requestInt
  | frameReady
deriving DecidableEq, Repr

/-- The outputs of one step (R9): the byte a Get operation returns and the events in order of emission. -/
structure StepOutput where
  returned : Option Byte := none
  events   : List Event := []
deriving DecidableEq, Repr

/-- A memory: the cells that differ from what an unlisted address reads as, addresses strictly rising. -/
abbrev Memory := List Host.Cell

/-- The frame buffer: the words the block has written, indices strictly rising. A word not listed holds whatever the caller
put there (R46, U10), and the model gives it no value. -/
abbrev FrameBuffer := List (Nat × Rgba)

/-- The state. -/
structure State where
  /-- `reg[0..10]` (R20). -/
  regs           : Vector Byte 11
  /-- `vram`, 16384 bytes (R43). -/
  vram           : Memory
  /-- `cram`, 64 bytes (R44). -/
  cram           : Memory
  /-- `info`, 256 slots (R45). -/
  info           : Vector Slot 256
  /-- `latch` (R37). -/
  latch          : Latch
  /-- `addr`, u14 (R38). -/
  addr           : VAddr
  /-- `code`, u2 (R38). -/
  code           : Code
  /-- `read_buf`, u8 (R39). -/
  readBuf        : Byte
  /-- `status` (R35). -/
  status         : Status
  /-- `line_pending` (R36). -/
  linePending    : Bool
  /-- `frame_pending` (R36). -/
  framePending   : Bool
  /-- `line`, 9 bits (R32). -/
  line           : BitVec 9
  /-- `cyc`, 9 bits (R32). -/
  cyc            : BitVec 9
  /-- `frac_acc`, 0 .. FRAC_DEN - 1 (R33). -/
  fracAcc        : Nat
  /-- `line_len`, CPL or CPL + 1 (R33). -/
  lineLen        : Nat
  /-- `hblank` (R34). -/
  hblank         : Bool
  /-- `line_counter`, u8 (R40). -/
  lineCounter    : Byte
  /-- `vscroll_latched`, u8 (R41). -/
  vscrollLatched : Byte
  /-- `hc_latch`, u8 (R42). -/
  hcLatch        : Byte
  /-- `game_gear` strap (R47). -/
  gameGear       : Bool
  /-- `pal` strap (R47). -/
  pal            : Bool
  /-- `initialised` (R47). -/
  initialised    : Bool
  /-- The frame buffer, an output memory (R46). -/
  fb             : FrameBuffer
  /-- The model's own: the open parameters (R5), written by no step (log entry 2). -/
  params         : Params
  /-- The model's own: the step labels the outside world presents next, oldest first (R9, R90; log entry 1). -/
  input          : List PinSample
  /-- The model's own: the outputs of the step that led here (R9; log entry 3). -/
  out            : StepOutput
deriving DecidableEq, Repr

/-- Reasons to fault. There is none: "There are no recoverable errors" (R251), and no behaviour of the block is treated as a
fault (spec/93_implementation_defined.md, end of Part 1). No one raises one. -/
inductive Fault
deriving DecidableEq, Repr

/-- Reasons to refuse a step. -/
inductive Refusal where
  /-- Raised by `exec` alone, in the arm of an instruction without a meaning; safe. No arm raises it now. -/
  | notModelled (mnemonic : String)
  /-- `PreconditionViolation("before RESET")`, raised by every step but RESET while `initialised` = 0 (R250). Safe: the step
  has no successor state, as R250 says. -/
  | beforeReset
deriving DecidableEq, Repr

/-- Power-on (R280): every storage element 0, latch Empty, `initialised` = 0. The straps "have no value yet": written here as
0 and read by nothing before RESET writes them (log entry 4). -/
def State.powerOn : State where
  regs           := Vector.replicate 11 0
  vram           := []
  cram           := []
  info           := Vector.replicate 256 {}
  latch          := .empty
  addr           := 0
  code           := .readVram
  readBuf        := 0
  status         := {}
  linePending    := false
  framePending   := false
  line           := 0
  cyc            := 0
  fracAcc        := 0
  lineLen        := 0
  hblank         := false
  lineCounter    := 0
  vscrollLatched := 0
  hcLatch        := 0
  gameGear       := false
  pal            := false
  initialised    := false
  fb             := []
  params         := Params.default
  input          := []
  out            := {}

/-- The machine right after RESET(0, 0), the table of R50 with the straps of a Master System with NTSC timing (the choice of
straps is the model's, log entry 4), no frame-buffer word written, no step label presented. -/
def State.reset : State where
  regs           := Vector.replicate 11 0
  vram           := []
  cram           := []
  info           := Vector.replicate 256 {}
  latch          := .empty
  addr           := 0
  code           := .readVram
  readBuf        := 0
  status         := {}
  linePending    := false
  framePending   := false
  line           := 0
  cyc            := 0
  fracAcc        := 0
  lineLen        := 228
  hblank         := false
  lineCounter    := 0
  vscrollLatched := 0
  hcLatch        := 0
  gameGear       := false
  pal            := false
  initialised    := true
  fb             := []
  params         := Params.default
  input          := []
  out            := {}

end Sys2Proof.Machine
end

