-- ==== Sys2Proof/Machine/Operands.lean ====
section
/-! DEFINITION. Every operand form the spec gives: register fields (R22 to R31), command-word fields (R94, R95), the
name-table entry (R98), the pattern row (R99, R100), the sprite attribute table (R101), the colour formats (R104 to
R106) and the beam's derived values (R168, R170, R171, R173). -/

namespace Sys2Proof.Machine

open Sys2Proof.Config

/-! ### The register file -/

/-- `reg[i]` (R8, R20). -/
def State.reg (s : State) (i : Fin 11) : Byte := s.regs[i.val]

/-- `reg[i] <- v` (R8). -/
def State.setReg (s : State) (i : Fin 11) (v : Byte) : State := { s with regs := s.regs.set i.val v }

/-- HFREEZE, `reg[0]` bit 6 (R22). -/
def State.hFreeze (s : State) : Bool := (s.reg 0).getLsbD 6
/-- LMASK, `reg[0]` bit 5 (R22). -/
def State.leftMask (s : State) : Bool := (s.reg 0).getLsbD 5
/-- LIE, `reg[0]` bit 4 (R22). -/
def State.lineEnable (s : State) : Bool := (s.reg 0).getLsbD 4
/-- SSHIFT, `reg[0]` bit 3 (R22). -/
def State.shiftSprites (s : State) : Bool := (s.reg 0).getLsbD 3
/-- FIE, `reg[1]` bit 5 (R23). -/
def State.frameEnable (s : State) : Bool := (s.reg 1).getLsbD 5
/-- TALLMAP, `reg[1]` bit 4 (R23). -/
def State.tallMap (s : State) : Bool := (s.reg 1).getLsbD 4
/-- SPR16, `reg[1]` bit 1 (R23). -/
def State.tallSprites (s : State) : Bool := (s.reg 1).getLsbD 1

/-- `name_base = (reg[2] & 0x0E) << 10` (R24). -/
def State.nameBase (s : State) : Nat := ((s.reg 2).toNat &&& 0x0E) <<< 10
/-- `sat_base = (reg[5] & 0x7E) << 7` (R26). -/
def State.satBase (s : State) : Nat := ((s.reg 5).toNat &&& 0x7E) <<< 7
/-- `sprite_pattern_base = (reg[6] & 0x04) << 11` (R27). -/
def State.spritePatternBase (s : State) : Nat := ((s.reg 6).toNat &&& 0x04) <<< 11
/-- `backdrop_index = reg[7] & 0x0F` (R28). -/
def State.backdropIndex (s : State) : Nat := (s.reg 7).toNat &&& 0x0F

/-! ### The command word -/

/-- `code = byte >> 6` (R92). -/
def Code.ofBits (c : BitVec 2) : Code :=
  match c.getLsbD 1, c.getLsbD 0 with
  | false, false => .readVram
  | false, true  => .writeVram
  | true,  false => .writeReg
  | true,  true  => .writeCram

/-- The numeric value of a command code (R92). -/
def Code.toNat : Code → Nat
  | .readVram => 0
  | .writeVram => 1
  | .writeReg => 2
  | .writeCram => 3

/-- `((hi & 0x3F) << 8) | lo`, the address a command word forms (R94). -/
def assembleAddr (hi lo : Byte) : VAddr := ((hi &&& 0x3F).setWidth 14 <<< 8) ||| lo.setWidth 14

/-- `hi >> 6`, the code a command word carries (R92). -/
def assembleCode (hi : Byte) : Code := Code.ofBits ((hi >>> 6).setWidth 2)

/-! ### The name-table entry and the pattern -/

/-- The decoded fields of a name-table entry (R98, R195). The "collision-mask bit" has no position and no effect
(R98, N7). -/
structure NameEntry where
  pat  : Nat
  hf   : Bool
  vf   : Bool
  bank : Bool
  prio : Bool
deriving DecidableEq, Repr

/-- DecodeEntry(e) (R195): bits 8..0 pattern, 9 hflip, 10 vflip, 11 bank, 12 priority, 15..13 ignored. -/
def decodeEntry (e : BitVec 16) : NameEntry where
  pat  := (e.extractLsb' 0 9).toNat
  hf   := e.getLsbD 9
  vf   := e.getLsbD 10
  bank := e.getLsbD 11
  prio := e.getLsbD 12

/-- The four plane bytes of a pattern row (R99). -/
structure Planes where
  p0 : Byte
  p1 : Byte
  p2 : Byte
  p3 : Byte
deriving DecidableEq, Repr

/-- PixelIndex(p0, p1, p2, p3, px, hf) (R100): screen pixel px takes column q = 7 - px when flipped, else px; plane 0 is
the least significant bit of the index and bit 7 of a plane byte the leftmost pixel. -/
def pixelIndex (p : Planes) (px : Nat) (hf : Bool) : PalIdx :=
  let q := if hf then 7 - px else px
  BitVec.ofBool (p.p3.getLsbD (7 - q)) ++ BitVec.ofBool (p.p2.getLsbD (7 - q)) ++
    BitVec.ofBool (p.p1.getLsbD (7 - q)) ++ BitVec.ofBool (p.p0.getLsbD (7 - q))

/-! ### Colours -/

/-- A 2-bit channel scaled as `(c * 255) / 3` (R233). -/
def scale2 (c : Nat) : Byte := BitVec.ofNat 8 (c * 255 / 3)

/-- A 4-bit channel scaled as `(c * 255) / 15` (R234). -/
def scale4 (c : Nat) : Byte := BitVec.ofNat 8 (c * 255 / 15)

/-- The colour of an SMS entry byte `--BBGGRR`, alpha 0xFF (R104, R233, R235). -/
def smsColour (c : Byte) : Rgba where
  r := scale2 (c.extractLsb' 0 2).toNat
  g := scale2 (c.extractLsb' 2 2).toNat
  b := scale2 (c.extractLsb' 4 2).toNat
  a := 0xFF

/-- The colour of a GG entry word `----BBBBGGGGRRRR`, alpha 0xFF (R105, R234, R235). -/
def ggColour (w : BitVec 16) : Rgba where
  r := scale4 (w.extractLsb' 0 4).toNat
  g := scale4 (w.extractLsb' 4 4).toNat
  b := scale4 (w.extractLsb' 8 4).toNat
  a := 0xFF

/-- `R | G << 8 | B << 16 | A << 24`, the 32-bit packing of R106. -/
def Rgba.pack (c : Rgba) : BitVec 32 := c.a ++ c.b ++ c.g ++ c.r

/-! ### Straps and the beam -/

/-- `CRAM_SIZE` under the strap (R5). -/
def State.cramSize (s : State) : Nat := Config.cramSize s.gameGear

/-- `LINES_PER_FRAME` under the strap (R5). -/
def State.linesPerFrame (s : State) : Nat := Config.linesPerFrame s.pal

/-- `VCounter() = VC_TABLE(pal, game_gear, line)` (R168). A line without an entry reads 0; parameters that are `Wf` have an
entry for every line of the frame. -/
def State.vCounter (s : State) : Byte := (s.params.vcTables.select s.pal s.gameGear).getD s.line.toNat 0

/-- `dot = min((cyc * DOTS_PER_LINE) div CPL, DOTS_PER_LINE - 1)` (R170). -/
def State.dot (s : State) : Nat :=
  min (s.cyc.toNat * s.params.dotsPerLine / s.params.cpl) (s.params.dotsPerLine - 1)

/-- `HCounter() = HC_TABLE(dot)` (R171). Parameters that are `Wf` have an entry for every dot. -/
def State.hCounter (s : State) : Byte := s.params.hcTable.getD s.dot 0

/-- The vertical phase of a line (R173). -/
inductive VPhase where
  | activeDisplay
  | verticalBlank
deriving DecidableEq, Repr

/-- R173, a function of `line`. -/
def State.vPhase (s : State) : VPhase := if s.line.toNat < activeEnd then .activeDisplay else .verticalBlank

/-- R173: on Game Gear, lines 0..23 and 168..191 are rendered and not shown; elsewhere active lines are shown. -/
def State.lineShown (s : State) : Bool :=
  if s.gameGear then decide (ggFirstLine ≤ s.line.toNat) && decide (s.line.toNat ≤ ggLastLine)
  else decide (s.line.toNat < activeEnd)

/-- The string that names the configuration, `VDP(SMS or GG)(NTSC or PAL)` (R1). -/
def State.identity (s : State) : String :=
  "VDP" ++ (if s.gameGear then "GG" else "SMS") ++ (if s.pal then "PAL" else "NTSC")

end Sys2Proof.Machine
end

