-- ==== Sys2Proof/Machine/Flags.lean ====
section
/-! DEFINITION. The flags: the status byte (R35, R102), the pending flags (R36), the interrupt level (R255), and what a flag
event sets or clears. -/

namespace Sys2Proof.Machine

/-- The status byte (R102): bits 7, 6, 5 the flags, bits 4..0 read as 0. -/
def Status.toByte (f : Status) : Byte :=
  BitVec.ofBool f.frameIrq ++ BitVec.ofBool f.spriteOverflow ++ BitVec.ofBool f.spriteCollision ++ 0#5

/-- A line IRQ is asserted while `line_pending && line_enable` (R253). -/
def State.lineIrq (s : State) : Bool := s.linePending && s.lineEnable

/-- A frame IRQ is asserted while `frame_pending && frame_enable` (R254). -/
def State.frameIrq (s : State) : Bool := s.framePending && s.frameEnable

/-- The INT level (R255), a combinational output (R48). -/
def State.intLevel (s : State) : Bool := s.lineIrq || s.frameIrq

/-- `hblank` is 1 exactly when `cyc >= line_len - HBLANK_CYCLES` (R34, R167); over the integers, so written as a sum. -/
def State.inHblank (s : State) : Bool := decide (s.lineLen ≤ s.cyc.toNat + s.params.hblankCycles)

/-- All five flags cleared (R130). -/
def State.clearFlags (s : State) : State := { s with status := {}, linePending := false, framePending := false }

/-- `sprite_overflow` and `sprite_collision` are sticky: a pass adds to them (R35). -/
def Status.withSprites (f : Status) (overflow collision : Bool) : Status :=
  { f with spriteOverflow := f.spriteOverflow || overflow, spriteCollision := f.spriteCollision || collision }

end Sys2Proof.Machine
end

