-- ==== Sys2Proof/Machine/Ops.lean ====
section
/-! DEFINITION. The shared operations: memories, the step's outputs, the refusal before RESET (R250), asserting an interrupt
(R256, R258) and its acknowledge (R259), and the port protocol's address and register operations. -/

namespace Sys2Proof.Machine

open Sys2Proof.Config

/-! ### Sparse storage in canonical form -/

/-- The value listed for a key. -/
def Cells.lookup {α : Type} : List (Nat × α) → Nat → Option α
  | [], _ => none
  | (k, v) :: rest, a => if a = k then some v else if a < k then none else Cells.lookup rest a

/-- List a value for a key, keeping the keys strictly rising. -/
def Cells.insert {α : Type} : List (Nat × α) → Nat → α → List (Nat × α)
  | [], a, v => [(a, v)]
  | (k, w) :: rest, a, v =>
    if a = k then (a, v) :: rest
    else if a < k then (a, v) :: (k, w) :: rest
    else (k, w) :: Cells.insert rest a v

/-- Take a key out of the list. -/
def Cells.erase {α : Type} : List (Nat × α) → Nat → List (Nat × α)
  | [], _ => []
  | (k, w) :: rest, a => if a = k then rest else if a < k then (k, w) :: rest else (k, w) :: Cells.erase rest a

/-- Every key is above the bound and they rise strictly. -/
def Cells.risingFrom {α : Type} : Nat → List (Nat × α) → Bool
  | _, [] => true
  | lo, (k, _) :: rest => decide (lo ≤ k) && Cells.risingFrom (k + 1) rest

/-- Keys strictly rising. -/
def Cells.rising {α : Type} (m : List (Nat × α)) : Bool := Cells.risingFrom 0 m

/-! ### VRAM and CRAM -/

/-- What a byte nothing has written since RESET reads as: 0, "cleared at Reset" (R43, R50). -/
def Memory.unlisted : Byte := 0#8

/-- One byte of a memory. -/
def Memory.read (m : Memory) (a : Nat) : Byte := (Cells.lookup m a).getD Memory.unlisted

/-- Store one byte; writing what an unlisted address reads as takes the cell out of the list. -/
def Memory.write (m : Memory) (a : Nat) (v : Byte) : Memory :=
  if v = Memory.unlisted then Cells.erase m a else Cells.insert m a v

/-- The canonical form of a memory of `size` bytes: addresses strictly rising and below `size`, no cell equal to what an
unlisted address reads as. -/
def Memory.wf (size : Nat) (m : Memory) : Bool :=
  Cells.rising m && m.all fun c => decide (c.1 < size) && decide (c.2 ≠ Memory.unlisted)

/-- `MemRead(VRAM, a, 1)` (R8): never faults, the address is reduced modulo 16384. -/
def State.vramByte (s : State) (a : Nat) : Byte := s.vram.read (a % vramSize)

/-- `MemRead(VRAM, a, 2)` (R8, R61): little-endian. -/
def State.vramHalf (s : State) (a : Nat) : BitVec 16 := s.vramByte (a + 1) ++ s.vramByte a

/-- `MemWrite(VRAM, a, 1, v)` (R8). -/
def State.vramWrite (s : State) (a : Nat) (v : Byte) : State := { s with vram := s.vram.write (a % vramSize) v }

/-- `MemRead(CRAM, a, 1)` (R8): the address is reduced modulo CRAM_SIZE (R64). -/
def State.cramByte (s : State) (a : Nat) : Byte := s.cram.read (a % s.cramSize)

/-- `MemWrite(CRAM, a, 1, v)` (R8). -/
def State.cramWrite (s : State) (a : Nat) (v : Byte) : State := { s with cram := s.cram.write (a % s.cramSize) v }

/-! ### The frame buffer -/

/-- The frame-buffer word, if the block has written it (R46). -/
def State.fbWord (s : State) (i : Nat) : Option Rgba := Cells.lookup s.fb i

/-- `FbWrite(i, rgba)` (R8, R236) on a frame buffer. -/
def FrameBuffer.write (fb : FrameBuffer) (i : Nat) (c : Rgba) : FrameBuffer := Cells.insert fb i c

/-! ### The step's outputs -/

/-- A step begins with no output of its own (R9). -/
def State.beginStep (s : State) : State := { s with out := {} }

/-- `emit e` (R8). -/
def State.emit (s : State) (e : Event) : State := { s with out := { s.out with events := s.out.events ++ [e] } }

/-- `return r` (R9). -/
def State.returning (s : State) (r : Byte) : State := { s with out := { s.out with returned := some r } }

/-! ### The one refusal -/

/-- Every step but RESET: refused while `initialised` = 0 (R250), else its effect, with its own outputs only. -/
def whenInitialised (s : State) (effect : State → State) : Host.Outcome State Fault Refusal :=
  if s.initialised then .next (effect s.beginStep) else .refused .beforeReset

/-! ### Asserting an interrupt and acknowledging it (R252 to R260) -/

/-- Assert toward the CPU: one RequestINT event when the source's enable is set. Nothing is saved, no mode changes, there is
no vector, and an event is emitted also when INT is already 1 (R256, R258). -/
def State.assertIf (s : State) (enabled : Bool) : State := if enabled then s.emit .requestInt else s

/-- The line source fires: the pending flag, then the event (R157, R258). -/
def State.raiseLine (s : State) : State := ({ s with linePending := true } : State).assertIf s.lineEnable

/-- The frame source fires: the status flag and the pending flag, then the event (R161, R258). -/
def State.raiseFrame (s : State) : State :=
  ({ s with status := { s.status with frameIrq := true }, framePending := true } : State).assertIf s.frameEnable

/-- The acknowledge: a status read clears both pending flags and all three status bits (R259). -/
def State.acknowledge (s : State) : State := s.clearFlags

/-- EnableTransition(idx, old, new) (R126): a 0-to-1 write of an enable whose flag is pending asserts the interrupt. -/
def State.enableTransition (s : State) (idx : Fin 11) (old new : Byte) : State :=
  let s1 := s.assertIf (idx == 0 && !old.getLsbD 4 && new.getLsbD 4 && s.linePending)
  s1.assertIf (idx == 1 && !old.getLsbD 5 && new.getLsbD 5 && s1.framePending)

/-! ### The port protocol's operations -/

/-- `addr <- (addr + 1) mod 0x4000` (R64). -/
def State.bumpAddr (s : State) : State := { s with addr := s.addr + 1 }

/-- `read_buf <- MemRead(VRAM, addr, 1); addr <- (addr + 1) mod 0x4000`: the pre-fetch (R124) and the refill (R129). -/
def State.fillReadBuf (s : State) : State := ({ s with readBuf := s.vramByte s.addr.toNat } : State).bumpAddr

/-- The three loads of R123, done before the per-code action. -/
def State.loadCommand (s : State) (code : Code) (addr : VAddr) : State :=
  { s with addr := addr, code := code, latch := .empty }

/-- CMD.WRITE_REG's action (R125): an index 0..10 is written and checked for an enable transition, 11..15 do nothing. -/
def State.writeRegister (s : State) (idx : BitVec 4) (v : Byte) : State :=
  if h : idx.toNat < numRegs then
    (s.setReg ⟨idx.toNat, h⟩ v).enableTransition ⟨idx.toNat, h⟩ (s.reg ⟨idx.toNat, h⟩) v
  else s

/-- The per-code action of R123, on the `code` and `addr` just loaded: READ_VRAM pre-fetches (R124), WRITE_REG writes a
register with the index cw[11:8] and the byte cw[7:0] (R125), the other two do nothing more (R127, R131). -/
def State.commandAction (s : State) : State :=
  match s.code with
  | .readVram  => s.fillReadBuf
  | .writeVram => s
  | .writeReg  => s.writeRegister (s.addr.extractLsb' 8 4) (s.addr.extractLsb' 0 8)
  | .writeCram => s

/-- The store of WriteData (R128): code 3 into CRAM at `addr mod CRAM_SIZE`, codes 0, 1 and 2 into VRAM. -/
def State.dataStore (s : State) (b : Byte) : State :=
  match s.code with
  | .writeCram => s.cramWrite s.addr.toNat b
  | .writeVram => s.vramWrite s.addr.toNat b
  | .readVram  => s.vramWrite s.addr.toNat b
  | .writeReg  => s.vramWrite s.addr.toNat b

end Sys2Proof.Machine
end

