-- ==== Sys2Proof/Machine/Commands.lean ====
section
/-! DEFINITION. The four command words, spec/40_port_protocol.md R123 to R127 and R131: what the step that completes the word
does. Each loads `addr` and `code`, empties the latch, and then acts (R123). -/

namespace Sys2Proof.Machine

/-- CMD.READ_VRAM (R124). -/
def execCmdReadVram (addr : VAddr) (s : State) : Host.Outcome State Fault Refusal :=
  whenInitialised s fun s => (s.loadCommand .readVram addr).fillReadBuf

/-- CMD.WRITE_VRAM (R127). -/
def execCmdWriteVram (addr : VAddr) (s : State) : Host.Outcome State Fault Refusal :=
  whenInitialised s fun s => s.loadCommand .writeVram addr

/-- CMD.WRITE_REG (R125); the address loaded is the whole of cw[13:0] (R95). -/
def execCmdWriteReg (unused : BitVec 2) (idx : BitVec 4) (data : Byte) (s : State) :
    Host.Outcome State Fault Refusal :=
  whenInitialised s fun s => (s.loadCommand .writeReg (unused ++ idx ++ data)).writeRegister idx data

/-- CMD.WRITE_CRAM (R131). -/
def execCmdWriteCram (addr : VAddr) (s : State) : Host.Outcome State Fault Refusal :=
  whenInitialised s fun s => s.loadCommand .writeCram addr

end Sys2Proof.Machine
end

