-- ==== Sys2Proof/Machine/Ports.lean ====
section
/-! DEFINITION. The port protocol, spec/40_port_protocol.md: one meaning per port step. None takes time (R120). -/

namespace Sys2Proof.Machine

/-- WriteControl(b): a first byte fills the latch (R122); a second byte completes the command word (R123). -/
def execWriteControl (b : Byte) (s : State) : Host.Outcome State Fault Refusal :=
  whenInitialised s fun s =>
    match s.latch with
    | .empty => { s with latch := .halfFull b }
    | .halfFull lo => (s.loadCommand (assembleCode b) (assembleAddr b lo)).commandAction

/-- WriteData(b) (R128). -/
def execWriteData (b : Byte) (s : State) : Host.Outcome State Fault Refusal :=
  whenInitialised s fun s => ({ s.dataStore b with latch := .empty, readBuf := b } : State).bumpAddr

/-- GetDataPort (R129): the byte returned is the buffer's, then the buffer is refilled. -/
def execGetDataPort (s : State) : Host.Outcome State Fault Refusal :=
  whenInitialised s fun s => ({ (s.returning s.readBuf).fillReadBuf with latch := .empty } : State)

/-- GetStatusFlags (R130): the status byte, then the acknowledge. -/
def execGetStatusFlags (s : State) : Host.Outcome State Fault Refusal :=
  whenInitialised s fun s => ({ (s.returning s.status.toByte).acknowledge with latch := .empty } : State)

/-- GetVCounter (R132). -/
def execGetVCounter (s : State) : Host.Outcome State Fault Refusal :=
  whenInitialised s fun s => s.returning s.vCounter

/-- GetHCounter (R133). -/
def execGetHCounter (s : State) : Host.Outcome State Fault Refusal :=
  whenInitialised s fun s => s.returning s.hcLatch

/-- A port write with a = 2 (R134): nothing changes; the data byte is ignored. -/
def execReservedW2 (_d : Byte) (s : State) : Host.Outcome State Fault Refusal :=
  whenInitialised s fun s => s

/-- A port write with a = 3 (R134): nothing changes; the data byte is ignored. -/
def execReservedW3 (_d : Byte) (s : State) : Host.Outcome State Fault Refusal :=
  whenInitialised s fun s => s

end Sys2Proof.Machine
end

