-- ==== Sys2Proof/Machine/ResetStep.lean ====
section
/-! DEFINITION. RESET, spec/70_reset_and_hazards.md R281. -/

namespace Sys2Proof.Machine

open Sys2Proof.Config

/-- The pseudocode of R281. The frame buffer is not touched, and the parameters and the outside world are not the block's. -/
def State.afterReset (s : State) (gameGear pal : Bool) : State where
  gameGear       := gameGear
  pal            := pal
  initialised    := true
  regs           := Vector.replicate 11 0
  vram           := []
  cram           := []
  info           := Vector.replicate 256 {}
  latch          := .empty
  addr           := 0
  code           := .readVram
  readBuf        := 0
  status         := {}
  linePending    := false
  framePending   := false
  line           := 0
  cyc            := 0
  fracAcc        := 0
  lineLen        := s.params.cpl
  hblank         := false
  lineCounter    := 0
  vscrollLatched := 0
  hcLatch        := 0
  fb             := s.fb
  params         := s.params
  input          := s.input
  out            := {}

/-- RESET(game_gear, pal) (R281): the one step accepted before initialisation, and at any time after it (R282). -/
def execReset (gameGear pal : Bool) (s : State) : Host.Outcome State Fault Refusal :=
  .next (s.afterReset gameGear pal)

end Sys2Proof.Machine
end

