-- ==== Sys2Proof/Machine/Background.lean ====
section
/-! DEFINITION. The background rasterizer, spec/42_background.md. -/

namespace Sys2Proof.Machine

open Sys2Proof.Config

/-- The name-table rows the tall-map bit selects (R191, U9). -/
def State.bgRows (s : State) : Nat := if s.tallMap then s.params.bgRowsTall else s.params.bgRowsNormal

/-- The vertical position `Y` of line L, in pixels (R191). -/
def State.bgY (s : State) (L : Nat) : Nat := (L + s.vscrollLatched.toNat) % (s.bgRows * 8)

/-- BgRow(L) (R191): the name-table row and the fine row. -/
def State.bgRow (s : State) (L : Nat) : Nat × Nat := (s.bgY L / 8, s.bgY L % 8)

/-- BgHScroll(L) (R192). -/
def State.bgHScroll (s : State) (L : Nat) : Nat :=
  if s.hFreeze && decide (L < freezeLines) then 0 else (s.reg 8).toNat

/-- The effective column `(C - (Hs >> 3)) mod 32` (R193). Adding 32 first keeps the difference a natural number; Hs >> 3 is
at most 31. -/
def effectiveColumn (C hs : Nat) : Nat := (C + 32 - hs / 8) % 32

/-- The name-table entry at row R, column Cx (R194). -/
def State.nameEntry (s : State) (R Cx : Nat) : NameEntry := decodeEntry (s.vramHalf (s.nameBase + R * 64 + Cx * 2))

/-- The four plane bytes at a VRAM address (R99). -/
def State.planesAt (s : State) (a : Nat) : Planes where
  p0 := s.vramByte a
  p1 := s.vramByte (a + 1)
  p2 := s.vramByte (a + 2)
  p3 := s.vramByte (a + 3)

/-- PatternRow(pat, fine_y, vf) (R196). -/
def State.patternRow (s : State) (pat fineY : Nat) (vf : Bool) : Planes :=
  s.planesAt (pat * 32 + (if vf then 7 - fineY else fineY) * 4)

/-- The slot a background pixel leaves (R190, R197). -/
def bgSlot (e : NameEntry) (planes : Planes) (px : Nat) : Slot where
  bgIdx  := pixelIndex planes px e.hf
  bgBank := e.bank
  bgPrio := e.prio
  spr    := false
  sprIdx := 0

/-- The screen position `(C*8 + (Hs & 7) + px) mod 256` (R197). -/
def bgScreenX (C hs px : Nat) : Fin 256 := Fin.ofNat 256 (C * 8 + hs % 8 + px)

/-- `info[X] <- slot`. -/
def putSlot (info : Vector Slot 256) (X : Fin 256) (slot : Slot) : Vector Slot 256 := info.set X.val slot

/-- One column of the loop of R190: eight pixels written. -/
def State.bgColumn (s : State) (R fineY hs : Nat) (info : Vector Slot 256) (C : Nat) : Vector Slot 256 :=
  let e := s.nameEntry R (effectiveColumn C hs)
  let planes := s.patternRow e.pat fineY e.vf
  (List.range 8).foldl (fun info px => putSlot info (bgScreenX C hs px) (bgSlot e planes px)) info

/-- LeftMask() (R198): columns 0..7 forced to index 0 with low priority. -/
def leftMaskInfo (info : Vector Slot 256) : Vector Slot 256 :=
  (List.range 8).foldl (fun info X => putSlot info (Fin.ofNat 256 X) {}) info

/-- The info buffer BgPass(L) leaves (R190). -/
def State.bgInfo (s : State) (L : Nat) : Vector Slot 256 :=
  let row := s.bgRow L
  let painted := (List.range 32).foldl (s.bgColumn row.1 row.2 (s.bgHScroll L)) s.info
  if s.leftMask then leftMaskInfo painted else painted

/-- BgPass(L) (R190): it writes the info buffer and nothing else. -/
def bgPass (L : Nat) (s : State) : State := { s with info := s.bgInfo L }

end Sys2Proof.Machine
end

