-- ==== Sys2Proof/Machine/Sprites.lean ====
section
/-! DEFINITION. The sprite rasterizer, spec/43_sprites.md. -/

namespace Sys2Proof.Machine

open Sys2Proof.Config

/-- SpriteHeight() (R211). -/
def State.spriteHeight (s : State) : Nat := if s.tallSprites then 16 else 8

/-- SpriteShift() (R217). -/
def State.spriteShift (s : State) : Nat := if s.shiftSprites then 8 else 0

/-- The Y byte of sprite i (R101, R212). -/
def State.spriteY (s : State) (i : Nat) : Byte := s.vramByte (s.satBase + i)

/-- The X byte of sprite i (R101, R215). -/
def State.spriteX (s : State) (i : Nat) : Byte := s.vramByte (s.satBase + 0x80 + 2 * i)

/-- The pattern byte of sprite i (R101, R215). -/
def State.spriteN (s : State) (i : Nat) : Byte := s.vramByte (s.satBase + 0x80 + 2 * i + 1)

/-- Sprite i's Y byte ends the scan: 0xD0 in 192-line mode, that is with the tall-map bit 0 (R212). -/
def State.spriteEnds (s : State) (i : Nat) : Bool := !s.tallMap && s.spriteY i == satTerminator

/-- The row `r = (L - Y - 1) mod 256` of a sprite on line L (R213). -/
def spriteRow (L : Nat) (Y : Byte) : Nat := (BitVec.ofNat 8 L - Y - 1).toNat

/-- Sprite i covers line L (R213). -/
def State.spriteCovers (s : State) (L i : Nat) : Bool := decide (spriteRow L (s.spriteY i) < s.spriteHeight)

/-- SpritePatternRow(n, r, H) (R216). -/
def State.spritePatternRow (s : State) (n : Byte) (r : Nat) : Planes :=
  let n := if s.tallSprites then n &&& 0xFE else n
  s.planesAt (s.spritePatternBase + n.toNat * 32 + r * 4)

/-- The plane bytes sprite i shows on line L. -/
def State.spritePlanes (s : State) (L i : Nat) : Planes :=
  s.spritePatternRow (s.spriteN i) (spriteRow L (s.spriteY i))

/-- What the pass has gathered so far: the info buffer and the two flags it may set. -/
structure SpriteAcc where
  info      : Vector Slot 256
  overflow  : Bool
  collision : Bool
deriving DecidableEq, Repr

/-- The screen position of pixel px (R217), over the integers: `sx = X - SpriteShift() + px`, dropped outside 0..255. -/
def State.spriteScreenX (s : State) (X : Byte) (px : Nat) : Option (Fin 256) :=
  let sx : Int := (X.toNat : Int) - (s.spriteShift : Int) + (px : Int)
  if 0 ≤ sx ∧ sx ≤ 255 then some (Fin.ofNat 256 sx.toNat) else none

/-- A non-zero sprite pixel meets its slot (R218, R219): the collision test first, then the slot is taken if free. -/
def SpriteAcc.plot (acc : SpriteAcc) (sx : Fin 256) (idx : PalIdx) : SpriteAcc :=
  let slot := acc.info[sx.val]
  { acc with
    collision := acc.collision || slot.bgIdx != 0
    info := if slot.spr then acc.info else putSlot acc.info sx { slot with spr := true, sprIdx := idx } }

/-- One pixel of the inner loop of R210: index 0 is transparent. -/
def State.spritePixel (s : State) (X : Byte) (planes : Planes) (acc : SpriteAcc) (px : Nat) : SpriteAcc :=
  let idx := pixelIndex planes px false
  if idx = 0 then acc
  else
    match s.spriteScreenX X px with
    | none => acc
    | some sx => acc.plot sx idx

/-- The eight pixels of a contributing sprite (R210). -/
def State.drawSprite (s : State) (L : Nat) (acc : SpriteAcc) (i : Nat) : SpriteAcc :=
  (List.range 8).foldl (s.spritePixel (s.spriteX i) (s.spritePlanes L i)) acc

/-- The outer loop of R210 over the sprites still to scan, `count` of which have contributed: it stops at a terminator (R212)
and at the ninth covering sprite (R214). -/
def State.scanSprites (s : State) (L : Nat) : List Nat → Nat → SpriteAcc → SpriteAcc
  | [], _, acc => acc
  | i :: rest, count, acc =>
    if s.spriteEnds i then acc
    else if s.spriteCovers L i then
      if count = maxSpritesPerLine then { acc with overflow := true }
      else s.scanSprites L rest (count + 1) (s.drawSprite L acc i)
    else s.scanSprites L rest count acc

/-- What the scan of line L gathers, flags starting at 0. -/
def State.spriteResult (s : State) (L : Nat) : SpriteAcc :=
  s.scanSprites L (List.range numSprites) 0 { info := s.info, overflow := false, collision := false }

/-- SpritePass(L) (R210): it writes the sprite fields of the info buffer and may set the two sprite flags, which are sticky
(R35), and nothing else. -/
def spritePass (L : Nat) (s : State) : State :=
  { s with
    info := (s.spriteResult L).info
    status := s.status.withSprites (s.spriteResult L).overflow (s.spriteResult L).collision }

end Sys2Proof.Machine
end

