-- ==== Sys2Proof/Machine/Output.lean ====
section
/-! DEFINITION. The colour output stage, spec/44_output.md. -/

namespace Sys2Proof.Machine

open Sys2Proof.Config

/-- Backdrop() (R232): entry `16 + (reg[7] & 0x0F)`. -/
def State.backdrop (s : State) : Nat := 16 + s.backdropIndex

/-- SelectEntry(slot) (R231). -/
def State.selectEntry (s : State) (slot : Slot) : Nat :=
  if slot.spr && (!slot.bgPrio || slot.bgIdx == 0) then 16 + slot.sprIdx.toNat
  else if slot.bgIdx = 0 then s.backdrop
  else slot.bgBank.toNat * 16 + slot.bgIdx.toNat

/-- The Game Gear word of entry e: bytes 2e (low) and 2e + 1 (high) (R67, R105). -/
def State.ggWord (s : State) (e : Nat) : BitVec 16 := s.cramByte (2 * e + 1) ++ s.cramByte (2 * e)

/-- Colour(e) (R233, R234, R235). -/
def State.colour (s : State) (e : Nat) : Rgba :=
  if s.gameGear then ggColour (s.ggWord e) else smsColour (s.cramByte e)

/-- The frame-buffer index of the pixel at line L, column X, if it is written (R236). -/
def State.fbIndex (s : State) (L X : Nat) : Option Nat :=
  if s.gameGear then
    if ggFirstLine ≤ L ∧ L ≤ ggLastLine ∧ ggFirstColumn ≤ X ∧ X ≤ ggLastColumn then
      some ((L - ggFirstLine) * fbWidth true + (X - ggFirstColumn))
    else none
  else some (L * fbWidth false + X)

/-- Emit(L, X, rgba) (R236). -/
def State.emitPixel (s : State) (L : Nat) (fb : FrameBuffer) (X : Nat) (c : Rgba) : FrameBuffer :=
  match s.fbIndex L X with
  | some i => fb.write i c
  | none => fb

/-- The colour shown at column X: the entry the slot selects (R230). -/
def State.pixelColour (s : State) (X : Fin 256) : Rgba := s.colour (s.selectEntry s.info[X.val])

/-- The frame buffer OutputPass(L) leaves: columns 0..255 ascending (R230, R75). -/
def State.outputFb (s : State) (L : Nat) : FrameBuffer :=
  (List.range 256).foldl (fun fb X => s.emitPixel L fb X (s.pixelColour (Fin.ofNat 256 X))) s.fb

/-- OutputPass(L) (R230): it writes the frame buffer and no state of the block. -/
def outputPass (L : Nat) (s : State) : State := { s with fb := s.outputFb L }

end Sys2Proof.Machine
end

