-- ==== Sys2Proof/Machine/Timing.lean ====
section
/-! DEFINITION. The timing engine, spec/41_timing_engine.md: CLOCK with its sub-steps, and LATCHH. -/

namespace Sys2Proof.Machine

open Sys2Proof.Config

/-- Underflow() (R157): reload, then the line source fires. -/
def lineUnderflow (s : State) : State := ({ s with lineCounter := s.reg 10 } : State).raiseLine

/-- LineCounterStep(L) (R156, R158). -/
def lineCounterStep (L : Nat) (s : State) : State :=
  if L ≤ s.params.lcLastDecLine then
    if s.lineCounter = 0#8 then lineUnderflow s else { s with lineCounter := s.lineCounter - 1#8 }
  else { s with lineCounter := s.reg 10 }

/-- FrameInterrupt() (R161). -/
def frameInterrupt (s : State) : State := s.raiseFrame

/-- NextLineLength() (R153). -/
def nextLineLength (s : State) : State :=
  if s.params.fracDen ≤ s.fracAcc + s.params.fracNum then
    { s with fracAcc := s.fracAcc + s.params.fracNum - s.params.fracDen, lineLen := s.params.cpl + 1 }
  else { s with fracAcc := s.fracAcc + s.params.fracNum, lineLen := s.params.cpl }

/-- FrameEnd() (R164). -/
def frameEnd (s : State) : State :=
  ({ s with vscrollLatched := s.reg 9, line := 0, cyc := 0 } : State).emit .frameReady

/-- Advance to the next line (R152). -/
def nextLine (L : Nat) (s : State) : State := { s with line := BitVec.ofNat 9 (L + 1), cyc := 0 }

/-- The three passes in order (R151, R155). -/
def renderLine (L : Nat) (s : State) : State := outputPass L (spritePass L (bgPass L s))

/-- Action 1 of a line end: lines of the active display are rendered (R151, R154). -/
def renderIfActive (L : Nat) (s : State) : State := if L < activeEnd then renderLine L s else s

/-- Action 3 of a line end: the frame interrupt at line ACTIVE_END (R151, R161). -/
def frameInterruptIfDue (L : Nat) (s : State) : State := if L = activeEnd then frameInterrupt s else s

/-- Action 4 of a line end: the frame end after the last line, else the next line (R151). -/
def advanceLine (L : Nat) (s : State) : State :=
  if L = s.linesPerFrame - 1 then frameEnd s else nextLine L s

/-- LineEnd() (R151), in the document's order, on the index of the line whose budget was just consumed. -/
def lineEnd (s : State) : State :=
  let L := s.line.toNat
  advanceLine L (nextLineLength (frameInterruptIfDue L (lineCounterStep L (renderIfActive L s))))

/-- The HBlank sub-state after a CLOCK step (R167). -/
def updateHblank (s : State) : State := { s with hblank := s.inHblank }

/-- The budget of the current line is consumed by this CLOCK step (R150). -/
def State.atLineEnd (s : State) : Bool := s.cyc.toNat + 1 == s.lineLen

/-- CLOCK's effect (R150). -/
def clockEffect (s : State) : State :=
  let ticked : State := { s with cyc := s.cyc + 1 }
  updateHblank (if s.atLineEnd then lineEnd ticked else ticked)

/-- CLOCK (R150). -/
def execClock (s : State) : Host.Outcome State Fault Refusal := whenInitialised s clockEffect

/-- LATCHH (R172): the H-counter value of the current dot is latched. -/
def execLatchH (s : State) : Host.Outcome State Fault Refusal :=
  whenInitialised s fun s => { s with hcLatch := s.hCounter }

end Sys2Proof.Machine
end

