-- ==== Sys2Proof/Machine/Dispatch.lean ====
section
/-! DEFINITION. One arm per constructor of Instr. -/

namespace Sys2Proof.Machine

def exec (i : Instr) (s : State) : Host.Outcome State Fault Refusal :=
  match i with
  | .reset gameGear pal => Sys2Proof.Machine.execReset gameGear pal s
  | .latchH => Sys2Proof.Machine.execLatchH s
  | .clock => Sys2Proof.Machine.execClock s
  | .writeData d => Sys2Proof.Machine.execWriteData d s
  | .writeControl d => Sys2Proof.Machine.execWriteControl d s
  | .reservedW2 d => Sys2Proof.Machine.execReservedW2 d s
  | .reservedW3 d => Sys2Proof.Machine.execReservedW3 d s
  | .getDataPort => Sys2Proof.Machine.execGetDataPort s
  | .getStatusFlags => Sys2Proof.Machine.execGetStatusFlags s
  | .getVCounter => Sys2Proof.Machine.execGetVCounter s
  | .getHCounter => Sys2Proof.Machine.execGetHCounter s
  | .cmdReadVram addr => Sys2Proof.Machine.execCmdReadVram addr s
  | .cmdWriteVram addr => Sys2Proof.Machine.execCmdWriteVram addr s
  | .cmdWriteReg unused idx data => Sys2Proof.Machine.execCmdWriteReg unused idx data s
  | .cmdWriteCram addr => Sys2Proof.Machine.execCmdWriteCram addr s

end Sys2Proof.Machine
end

