-- ==== Sys2Proof/Decode.lean ====
section
/-! DEFINITION. The decoder and the encoder of spec/30_encoding.md (R90 to R95), and the opcode table's rows. -/

namespace Sys2Proof

/-! ### Format EV: the step label (R90, R91) -/

/-- Decode a pin sample by the bits of R90: `rst` is bit 5, `th` bit 4, `cs` bit 3, `rw` bit 2, `a` bits 1..0. Total
(R90: "Every 6-bit value decodes to exactly one row"). -/
def decodeEv (p : PinSample) : Instr :=
  if p.ev.getLsbD 5 then .reset p.gameGear p.pal
  else if p.ev.getLsbD 4 then .latchH
  else if !p.ev.getLsbD 3 then .clock
  else
    match p.ev.getLsbD 2, p.ev.getLsbD 1, p.ev.getLsbD 0 with
    | false, false, false => .writeData p.d
    | false, false, true  => .writeControl p.d
    | false, true,  false => .reservedW2 p.d
    | false, true,  true  => .reservedW3 p.d
    | true,  false, false => .getDataPort
    | true,  false, true  => .getStatusFlags
    | true,  true,  false => .getVCounter
    | true,  true,  true  => .getHCounter

/-! ### Format CW: the command word (R92, R93) -/

/-- Decode a completed command word: `code` is bits 15..14, the address bits 13..0; for WRITE_REG the index is bits 11..8
and the byte bits 7..0 (R93). Total (R97: "impossible (2-bit field, all four codes defined)"). -/
def decodeCw (w : BitVec 16) : Instr :=
  match w.getLsbD 15, w.getLsbD 14 with
  | false, false => .cmdReadVram (w.extractLsb' 0 14)
  | false, true  => .cmdWriteVram (w.extractLsb' 0 14)
  | true,  false => .cmdWriteReg (w.extractLsb' 12 2) (w.extractLsb' 8 4) (w.extractLsb' 0 8)
  | true,  true  => .cmdWriteCram (w.extractLsb' 0 14)

/-- Decode either format (R109). -/
def decode : Encoded → Instr
  | .ev p => decodeEv p
  | .cw w => decodeCw w

/-! ### Words numbered as the opcode table numbers them -/

/-- Why a number is no encoding of any row. -/
inductive DecodeError where
  /-- Bits 7..6 of the label byte are set: the step label has six bits (R90). -/
  | labelWiderThanSixBits
  /-- Bits above the label, the data byte and the two straps are set: the pins carry nothing there (R90). -/
  | bitsBeyondThePins
  /-- Bits above bit 15 are set in a command word (R93). -/
  | commandWiderThanSixteenBits
deriving DecidableEq, Repr

/-- A pin sample laid out as one number (the model's own layout, log entry 5): the step label in bits 5..0, the data byte
in bits 15..8, `game_gear` in bit 16, `pal` in bit 17. -/
def sampleOfWord (w : Nat) : PinSample where
  ev       := BitVec.ofNat 6 w
  d        := BitVec.ofNat 8 (w >>> 8)
  gameGear := w.testBit 16
  pal      := w.testBit 17

/-- Whether a table row of `nbits` bits is a command word: the CW rows are 16 bits wide, the EV rows 6 (one byte). -/
def isCommandWidth (nbits : Nat) : Bool := nbits == 16

/-- Decode a number of a table row's width, rejecting by name. -/
def decodeWord (nbits w : Nat) : Except DecodeError Encoded :=
  if isCommandWidth nbits then
    if w < 0x10000 then .ok (.cw (BitVec.ofNat 16 w)) else .error .commandWiderThanSixteenBits
  else if (w >>> 6) % 4 ≠ 0 then .error .labelWiderThanSixBits
  else if w < 0x40000 then .ok (.ev (sampleOfWord w))
  else .error .bitsBeyondThePins

/-- The instruction the decoder reads from a table row's word (none where it refuses). -/
def decodeTableWord (nbits w : Nat) : Option Instr :=
  match decodeWord nbits w with
  | .ok e    => some (decode e)
  | .error _ => none

/-! ### The encoder -/

/-- Encode an operation, from the tables of R90 and R93. Ignored label bits are 0. -/
def encode : Instr → Encoded
  | .reset g p          => .ev { ev := 0x20, gameGear := g, pal := p }
  | .latchH             => .ev { ev := 0x10 }
  | .clock              => .ev { ev := 0x00 }
  | .writeData d        => .ev { ev := 0x08, d := d }
  | .writeControl d     => .ev { ev := 0x09, d := d }
  | .reservedW2 d       => .ev { ev := 0x0A, d := d }
  | .reservedW3 d       => .ev { ev := 0x0B, d := d }
  | .getDataPort        => .ev { ev := 0x0C }
  | .getStatusFlags     => .ev { ev := 0x0D }
  | .getVCounter        => .ev { ev := 0x0E }
  | .getHCounter        => .ev { ev := 0x0F }
  | .cmdReadVram a      => .cw (0b00#2 ++ a)
  | .cmdWriteVram a     => .cw (0b01#2 ++ a)
  | .cmdWriteReg u i d  => .cw (0b10#2 ++ (u ++ i ++ d))
  | .cmdWriteCram a     => .cw (0b11#2 ++ a)

/-! ### The rows of the opcode table as data -/

/-- One row: a value belongs to it when its bits under `mask` are those of `pattern` (R90, R93). -/
structure Row (w : Nat) where
  mnemonic : String
  pattern  : BitVec w
  mask     : BitVec w
deriving DecidableEq, Repr

/-- Does the value belong to the row? -/
def Row.fits {w : Nat} (r : Row w) (v : BitVec w) : Bool := v &&& r.mask == r.pattern

/-- The EV rows of R90. -/
def evRows : List (Row 6) :=
  [ ⟨"RESET", 0x20, 0x20⟩, ⟨"LATCHH", 0x10, 0x30⟩, ⟨"CLOCK", 0x00, 0x38⟩, ⟨"WriteData", 0x08, 0x3F⟩,
    ⟨"WriteControl", 0x09, 0x3F⟩, ⟨"RESERVED.W2", 0x0A, 0x3F⟩, ⟨"RESERVED.W3", 0x0B, 0x3F⟩, ⟨"GetDataPort", 0x0C, 0x3F⟩,
    ⟨"GetStatusFlags", 0x0D, 0x3F⟩, ⟨"GetVCounter", 0x0E, 0x3F⟩, ⟨"GetHCounter", 0x0F, 0x3F⟩ ]

/-- The CW rows of R93. -/
def cwRows : List (Row 16) :=
  [ ⟨"CMD.READ_VRAM", 0x0000, 0xC000⟩, ⟨"CMD.WRITE_VRAM", 0x4000, 0xC000⟩, ⟨"CMD.WRITE_REG", 0x8000, 0xC000⟩,
    ⟨"CMD.WRITE_CRAM", 0xC000, 0xC000⟩ ]

/-- The mnemonic of an operation, as spec/opcode_table.json spells it. -/
def mnemonic : Instr → String
  | .reset _ _ => "RESET"
  | .latchH => "LATCHH"
  | .clock => "CLOCK"
  | .writeData _ => "WriteData"
  | .writeControl _ => "WriteControl"
  | .reservedW2 _ => "RESERVED.W2"
  | .reservedW3 _ => "RESERVED.W3"
  | .getDataPort => "GetDataPort"
  | .getStatusFlags => "GetStatusFlags"
  | .getVCounter => "GetVCounter"
  | .getHCounter => "GetHCounter"
  | .cmdReadVram _ => "CMD.READ_VRAM"
  | .cmdWriteVram _ => "CMD.WRITE_VRAM"
  | .cmdWriteReg _ _ _ => "CMD.WRITE_REG"
  | .cmdWriteCram _ => "CMD.WRITE_CRAM"

end Sys2Proof
end

