-- ==== Sys2Proof/Machine/Fetch.lean ====
section
/-! DEFINITION. Which operation the next step is (R90, R96, R109), and how a table row's word is placed so that it is the next
one. -/

namespace Sys2Proof.Machine

/-- The operation a pin sample requests (R109): the step label is decoded by R90; a WriteControl while the latch holds a first
byte completes a command word `(b << 8) | lo` (R93, R96), which is decoded by its code. -/
def requested (latch : Latch) (p : PinSample) : Instr :=
  match decodeEv p, latch with
  | .writeControl b, .halfFull lo => decodeCw (b ++ lo)
  | i, _ => i

/-- The next operation and the state with its label taken from the input; none when no label is presented. -/
def fetch (s : State) : Option (Instr × State) :=
  match s.input with
  | [] => none
  | p :: rest => some (requested s.latch p, { s with input := rest })

/-- No label is presented: the block "stops, keeping all state" (R264) and outputs nothing. -/
def idle (s : State) : State := s.beginStep

/-- Present one more label, before those already waiting. -/
def State.present (s : State) (p : PinSample) : State := { s with input := p :: s.input }

/-- Place a command word: its low byte stands in the latch and its high byte is presented as the second control byte
(R93, R96). -/
def State.presentCommand (s : State) (w : BitVec 16) : State :=
  ({ s with latch := .halfFull (w.extractLsb' 0 8) } : State).present { ev := 0x09, d := w.extractLsb' 8 8 }

/-- Place a step label. A WriteControl is taken as the EV row only where the latch is Empty, so the latch is emptied for it
and left alone for every other label. -/
def State.presentLabel (s : State) (p : PinSample) : State :=
  match decodeEv p with
  | .writeControl _ => ({ s with latch := .empty } : State).present p
  | _ => s.present p

/-- Place the word of a table row of `nbits` bits. -/
def State.presentWord (s : State) (nbits w : Nat) : State :=
  if isCommandWidth nbits then s.presentCommand (BitVec.ofNat 16 w) else s.presentLabel (sampleOfWord w)

end Sys2Proof.Machine
end

