-- ==== Sys2Proof/Machine/Step.lean ====
section
/-! DEFINITION. One step of the machine: the next label presented is decoded and run (R9, R90). -/

namespace Sys2Proof.Machine

/-- One step: next, or a refusal (R250); there is no fault (R251). -/
def step (s : State) : Host.Outcome State Fault Refusal :=
  match fetch s with
  | none => .next (idle s)
  | some (i, s') => exec i s'

/-- The state in which the next step runs the instruction of a table row's word. -/
def State.withFetchWord (s : State) (nbits w : Nat) : State := s.presentWord nbits w

end Sys2Proof.Machine
end

