-- ==== Sys2Proof/Machine/Trace.lean ====
section
/-! DEFINITION. Sequences of steps: the trace notation's runs (R107), Tick(n) (R166), and the pseudo-operations of R108. -/

namespace Sys2Proof.Machine

/-- Run operations one after another, collecting each step's outputs in order; it stops at the first refusal. -/
def runInstrs : List Instr → State → Host.Outcome (State × List StepOutput) Fault Refusal
  | [], s => .next (s, [])
  | i :: rest, s =>
    match exec i s with
    | .next t =>
      match runInstrs rest t with
      | .next (u, outs) => .next (u, t.out :: outs)
      | .fault f => .fault f
      | .refused r => .refused r
    | .fault f => .fault f
    | .refused r => .refused r

/-- Tick(n) (R166): n CLOCK steps; true when at least one of them emitted FrameReady. -/
def tick : Nat → State → Host.Outcome (State × Bool) Fault Refusal
  | 0, s => .next (s, false)
  | n + 1, s =>
    match exec .clock s with
    | .next t =>
      match tick n t with
      | .next (u, ready) => .next (u, t.out.events.contains .frameReady || ready)
      | .fault f => .fault f
      | .refused r => .refused r
    | .fault f => .fault f
    | .refused r => .refused r

/-- `SETREG r, v`: `WC v ; WC 0x80 | r` (R108). -/
def setRegOps (r : BitVec 4) (v : Byte) : List Instr := [.writeControl v, .writeControl (0x80 ||| r.setWidth 8)]

/-- `VRAMW a`: `WC a & 0xFF ; WC 0x40 | (a >> 8)` (R108). -/
def vramWOps (a : VAddr) : List Instr := [.writeControl (a.setWidth 8), .writeControl (0x40 ||| (a >>> 8).setWidth 8)]

/-- `VRAMR a`: `WC a & 0xFF ; WC a >> 8` (R108). -/
def vramROps (a : VAddr) : List Instr := [.writeControl (a.setWidth 8), .writeControl ((a >>> 8).setWidth 8)]

/-- `CRAMW a`: `WC a & 0xFF ; WC 0xC0 | (a >> 8)` (R108). -/
def cramWOps (a : VAddr) : List Instr := [.writeControl (a.setWidth 8), .writeControl (0xC0 ||| (a >>> 8).setWidth 8)]

/-- `TICKLINE`: `CLK CPL` (R108). -/
def tickLineOps (s : State) : List Instr := List.replicate s.params.cpl .clock

/-- `TICKFRAME`: `CLK CPL * LINES_PER_FRAME` (R108). -/
def tickFrameOps (s : State) : List Instr := List.replicate (s.params.cpl * s.linesPerFrame) .clock

end Sys2Proof.Machine
end

