-- ==== Sys2Proof/WellFormed.lean ====
section
/-! DEFINITION. Well-formedness of operations and of the parameters. -/

namespace Sys2Proof

/-- Well-formed operations. Every operand of every row has its exact range by its type (u8, u14, a 4-bit index, a strap),
and no value of any operand is reserved (R97: "No encoding traps"), so every constructor is well-formed with all its
operands. Written per constructor, so that a new row must be given its check here. -/
def Instr.wf : Instr → Bool
  | .reset _ _ => true
  | .latchH => true
  | .clock => true
  | .writeData _ => true
  | .writeControl _ => true
  | .reservedW2 _ => true
  | .reservedW3 _ => true
  | .getDataPort => true
  | .getStatusFlags => true
  | .getVCounter => true
  | .getHCounter => true
  | .cmdReadVram _ => true
  | .cmdWriteVram _ => true
  | .cmdWriteReg _ _ _ => true
  | .cmdWriteCram _ => true

namespace Config

/-- A V-counter table is usable for a timing when it has an entry for every line and satisfies the one property the
document states, `VC_TABLE(line) = line` for line = 0..191 (R169). -/
abbrev VcTableOk (lines : Nat) (t : List Byte) : Prop :=
  t.length = lines ∧ ∀ l < activeEnd, t[l]? = some (BitVec.ofNat 8 l)

/-- The constraint on all four tables (R168, R169). -/
abbrev VcTables.Wf (t : VcTables) : Prop :=
  VcTableOk 262 t.smsNtsc ∧ VcTableOk 313 t.smsPal ∧ VcTableOk 262 t.ggNtsc ∧ VcTableOk 313 t.ggPal

/-- The line length is positive and fits the 9-bit counter `cyc` also when the adjustment adds one (R32, R33). -/
abbrev Params.CplOk (c : Params) : Prop := 0 < c.cpl ∧ c.cpl < 512

/-- `0 <= FRAC_NUM < FRAC_DEN` (R153). -/
abbrev Params.FracOk (c : Params) : Prop := c.fracNum < c.fracDen

/-- HBlank is a proper part of the line, so that `hblank` = 0 at `cyc` = 0 as R50 and R34 both say (R167: "enter HBlank
partway through each line"). DEDUCED, log entry 7. -/
abbrev Params.HblankOk (c : Params) : Prop := c.hblankCycles < c.cpl

/-- The H-counter table has an entry for every dot (R171). -/
abbrev Params.DotsOk (c : Params) : Prop := 0 < c.dotsPerLine ∧ c.hcTable.length = c.dotsPerLine

/-- A name table has at least one row and at most the 32 that R66 gives room for. -/
abbrev Params.RowsOk (c : Params) : Prop :=
  (0 < c.bgRowsTall ∧ c.bgRowsTall ≤ 32) ∧ (0 < c.bgRowsNormal ∧ c.bgRowsNormal ≤ 32)

/-- Parameters the rules can be run with. -/
abbrev Params.Wf (c : Params) : Prop :=
  c.CplOk ∧ c.FracOk ∧ c.HblankOk ∧ c.DotsOk ∧ c.vcTables.Wf ∧ c.RowsOk

end Config

end Sys2Proof
end

