-- ==== Sys2Proof/Safety.lean ====
section
/-! DEFINITION. What holds in every state a run can reach (R51), and what a safe run is. -/

namespace Sys2Proof.Machine

open Sys2Proof.Config

/-- What no step depends on the reset for: usable parameters, memories in canonical form and within their size, the frame
buffer's words in rising order. -/
structure State.Stored (s : State) : Prop where
  paramsWf : s.params.Wf
  vramWf   : Memory.wf vramSize s.vram = true
  cramWf   : Memory.wf cramStorage s.cram = true
  fbRising : Cells.rising s.fb = true

/-- The invariant of R51 (items 1 to 4; items 5 and 6 speak of two states and are statements of their own), with the ranges of
R32 and R33 and the unreachable half of CRAM on SMS (R44). Item 1, `addr < 0x4000`, is the type of `addr`. -/
structure State.Inv (s : State) : Prop where
  stored       : s.Stored
  initialised  : s.initialised = true
  frameFlags   : s.framePending = s.status.frameIrq
  lineRange    : s.line.toNat < s.linesPerFrame
  cycRange     : s.cyc.toNat < s.lineLen
  lineLenRange : s.lineLen = s.params.cpl ∨ s.lineLen = s.params.cpl + 1
  fracRange    : s.fracAcc < s.params.fracDen
  hblankIff    : s.hblank = s.inHblank
  smsCram      : s.gameGear = false → ∀ a, 32 ≤ a → s.cram.read a = 0

/-- A run is safe when no step of it is refused before RESET (R250). -/
def State.accepts (s : State) : Prop := ∃ t, step s = .next t

/-! ### What a line shows, said pixel by pixel

The passes of R190, R210 and R230 are loops; these functions say what they leave at one column, and the statements relate
the two. -/

/-- The background slot at column X of line L: slot X shows name-table pixel column `(X - Hs) mod 256` (R197), blanked by the
left mask (R198). -/
def State.bgSlotAt (s : State) (L X : Nat) : Slot :=
  if s.leftMask = true ∧ X < 8 then {}
  else
    let col := (X + 256 - s.bgHScroll L) % 256
    let e := s.nameEntry (s.bgY L / 8) (col / 8)
    bgSlot e (s.patternRow e.pat (s.bgY L % 8) e.vf) (col % 8)

/-- The sprites the scan can reach: in index order, up to the first terminator (R212). -/
def State.scannedSprites (s : State) : List Nat := (List.range numSprites).takeWhile fun i => !s.spriteEnds i

/-- The scanned sprites that cover line L (R213). -/
def State.coveringSprites (s : State) (L : Nat) : List Nat := s.scannedSprites.filter fun i => s.spriteCovers L i

/-- The sprites that contribute to line L: the first eight that cover it (R214). -/
def State.contributors (s : State) (L : Nat) : List Nat := (s.coveringSprites L).take maxSpritesPerLine

/-- The palette index sprite i has at column X of line L; 0 where it has no pixel or a transparent one (R217, R218). -/
def State.spriteIndexAt (s : State) (L i X : Nat) : PalIdx :=
  let px : Int := (X : Int) - ((s.spriteX i).toNat : Int) + (s.spriteShift : Int)
  if 0 ≤ px ∧ px < 8 then pixelIndex (s.spritePlanes L i) px.toNat false else 0

/-- The contributing sprite that owns column X of line L: the lowest index with a non-zero pixel there (R218). -/
def State.spriteOwner (s : State) (L X : Nat) : Option Nat :=
  (s.contributors L).find? fun i => s.spriteIndexAt L i X != 0

/-- The slot at column X of line L after the background and the sprite pass. -/
def State.shownSlot (s : State) (L X : Nat) : Slot :=
  match s.spriteOwner L X with
  | none => s.bgSlotAt L X
  | some i => { s.bgSlotAt L X with spr := true, sprIdx := s.spriteIndexAt L i X }

end Sys2Proof.Machine
end

