-- ==== Sys2Proof/Certificates/Slice0/Obligations.lean ====
section
/-! DEFINITION. The statements for the provers. A statement whose clause rests on a decision of spec/92_eei_decisions.md (D n)
or on a derivation the spec marks as its own says so in its docstring and has basis `derived`. -/

open Sys2Proof Sys2Proof.Machine Sys2Proof.Config

/-! ### Encoding -/

/-- Decode and encode agree, for every operation with every operand at every value (R90, R92, R93, R109). The label encoding is
the spec's decision D2. -/
def Obligations.DecodeOfEncodeIsTheInstruction : Prop :=
  ∀ i : Instr, i.wf = true → decode (encode i) = i

/-- Every 6-bit label and every 16-bit command word fits exactly one row of the opcode table, and the decoder answers that
row's operation (R90, R92, R93; D2). -/
def Obligations.EveryValueFitsExactlyOneRow : Prop :=
  (∀ p : PinSample, (evRows.filter (·.fits p.ev)).map (·.mnemonic) = [mnemonic (decodeEv p)]) ∧
    ∀ w : BitVec 16, (cwRows.filter (·.fits w)).map (·.mnemonic) = [mnemonic (decodeCw w)]

/-- No bit of a command word is dropped: the decoded command word encodes to the same 16 bits (R93, R94, R95). -/
def Obligations.CommandWordKeepsEveryBit : Prop :=
  ∀ w : BitVec 16, encode (decodeCw w) = .cw w

/-- Words written out from the spec's encodings decode to the operations they stand for (R90, R93, R108; the label encoding
is D2, the number layout of a pin sample the model's own, log entry 5). -/
def Obligations.SpecWordsDecodeAsTheSpecSays : Prop :=
  decodeTableWord 8 0b00100000 = some (.reset false false) ∧
    decodeTableWord 8 0b00010000 = some .latchH ∧
    decodeTableWord 8 0b00000000 = some .clock ∧
    decodeTableWord 8 0b00001000 = some (.writeData 0) ∧
    decodeTableWord 8 0b00001101 = some .getStatusFlags ∧
    decodeTableWord 16 0b1000001000001110 = some (.cmdWriteReg 0 2 0x0E) ∧
    decodeTableWord 16 0b0101001000110100 = some (.cmdWriteVram 0x1234)

/-- A step runs the operation its label requests, with the label taken from the input and nothing else changed: whatever its
ignored bits, the operation the label decodes to (a WriteControl where the latch is Empty), and for a WriteControl that finds
a first byte in the latch the command word the two bytes form (R90, R96, R109; the list of waiting labels is the model's own,
log entry 1). -/
def Obligations.StepRunsTheRequestedInstruction : Prop :=
  ∀ (s : State) (p : PinSample) (rest : List PinSample), s.input = p :: rest →
    (∀ i, decodeEv p = i → i.wf = true → (s.latch = .empty ∨ ∀ b, i ≠ .writeControl b) →
      step s = exec i { s with input := rest }) ∧
    (∀ hi lo : Byte, decodeEv p = .writeControl hi → s.latch = .halfFull lo →
      step s = exec (decodeCw (hi ++ lo)) { s with input := rest })

/-- With no label presented the block keeps all its state and outputs nothing (R264: it "stops, keeping all state, when they do
not" arrive; that such a step is a step is the model's choice, log entry 1). -/
def Obligations.StepWithoutALabelKeepsAllState : Prop :=
  ∀ s : State, s.input = [] → step s = .next { s with out := { returned := none, events := [] } }

/-- The state `withFetchWord` gives runs the row's operation next, and leaves the waiting labels as they were (the model's own
placement of a word, log entries 5 and 6). -/
def Obligations.FetchWordRunsItsInstruction : Prop :=
  ∀ (s : State) (nbits w : Nat) (i : Instr), decodeTableWord nbits w = some i →
    ((∀ b, i ≠ .writeControl b) → step (s.withFetchWord nbits w) = exec i s) ∧
    (∀ b, i = .writeControl b → step (s.withFetchWord nbits w) = exec i { s with latch := .empty })

/-- A second control byte is the command word it completes (R96, R109, R123): WriteControl with a half-full latch is the
decoded command word's operation. -/
def Obligations.SecondControlByteRunsTheCommandWord : Prop :=
  ∀ (s : State) (b lo : Byte), s.latch = .halfFull lo → exec (.writeControl b) s = exec (decodeCw (b ++ lo)) s

/-! ### Before and after RESET -/

/-- Before the first RESET every step but RESET is refused (R250; D31). -/
def Obligations.OnlyResetIsAcceptedBeforeReset : Prop :=
  ∀ (s : State) (i : Instr), s.initialised = false → (∀ g p, i ≠ .reset g p) → exec i s = .refused .beforeReset

/-- After a RESET nothing can fail: every operation answers a next state, and so does every step, and the block stays
initialised (R250, R251, R294; D37). -/
def Obligations.EveryStepCompletesAfterReset : Prop :=
  ∀ s : State, s.initialised = true →
    (∀ i, ∃ t, exec i s = .next t ∧ t.initialised = true) ∧ ∃ t, step s = .next t ∧ t.initialised = true

/-- RESET gives every element the value of R50's table from any state, touches no frame-buffer word and emits nothing (R281,
R50; D8, D12, D32 for the elements the document does not name). -/
def Obligations.ResetGivesEveryElementItsValue : Prop :=
  ∀ (s : State) (g p : Bool), ∃ t, exec (.reset g p) s = .next t ∧
    t.gameGear = g ∧ t.pal = p ∧ t.initialised = true ∧
    (∀ i, t.reg i = 0) ∧ (∀ a, t.vramByte a = 0) ∧ (∀ a, t.cram.read a = 0) ∧ (∀ X : Fin 256, t.info[X.val] = {}) ∧
    t.latch = .empty ∧ t.addr = 0 ∧ t.code.toNat = 0 ∧ t.readBuf = 0 ∧
    t.status = { frameIrq := false, spriteOverflow := false, spriteCollision := false } ∧
    t.linePending = false ∧ t.framePending = false ∧
    t.line = 0 ∧ t.cyc = 0 ∧ t.fracAcc = 0 ∧ t.lineLen = s.params.cpl ∧ t.hblank = false ∧
    t.lineCounter = 0 ∧ t.vscrollLatched = 0 ∧ t.hcLatch = 0 ∧ t.intLevel = false ∧
    (∀ i, t.fbWord i = s.fbWord i) ∧ t.out = { returned := none, events := [] } ∧
    t.params = s.params ∧ t.input = s.input

/-! ### The port protocol -/

/-- A first control byte, label 0x09 with the latch Empty, fills the latch and changes nothing else (R90, R122). That the label
is 0x09 is the spec's decision D2 (log entry 18). -/
def Obligations.FirstControlByteOnlyFillsTheLatch : Prop :=
  (∀ b : Byte, decodeEv { ev := 0x09, d := b } = .writeControl b) ∧
  ∀ (s : State) (b : Byte), s.initialised = true → s.latch = .empty →
    exec (.writeControl b) s = .next { s with latch := .halfFull b, out := { returned := none, events := [] } }

/-- What a second control byte leaves in `addr`, `code` and `latch`, as numbers: the address is `((b & 0x3F) << 8) | a`, one more
modulo 0x4000 for code 0, and the code is `b >> 6` (R94, R123, C2). -/
def Obligations.SecondControlByteLoadsAddressAndCode : Prop :=
  ∀ (s : State) (lo b : Byte), s.initialised = true → s.latch = .halfFull lo →
    ∃ t, exec (.writeControl b) s = .next t ∧ t.latch = .empty ∧ t.code.toNat = b.toNat >>> 6 ∧
      t.addr.toNat = ((((b.toNat &&& 0x3F) <<< 8) ||| lo.toNat) + if b.toNat >>> 6 = 0 then 1 else 0) % 0x4000

/-- CMD.READ_VRAM, the command words with code 0, loads address and code, pre-fetches the byte and increments with 14-bit wrap, and
changes nothing else (R92, R123, R124). That READ_VRAM is code 0 is derived in the spec (R92), and the loads are R123's for a CW
row run on its own (log entry 10). -/
def Obligations.ReadVramCommandPrefetches : Prop :=
  (∀ a : VAddr, decodeCw (0b00#2 ++ a) = .cmdReadVram a) ∧
  ∀ (s : State) (a : VAddr), s.initialised = true →
    exec (.cmdReadVram a) s = .next { s with
      code := .readVram, latch := .empty, readBuf := s.vramByte a.toNat, addr := a + 1
      out := { returned := none, events := [] } }

/-- CMD.WRITE_VRAM and CMD.WRITE_CRAM, the command words with code 1 and 3, load address and code and change nothing else
(R92, R123, R127, R131). The values 1 and 3 are R92's, which the spec derives, and the loads are R123's for a CW row run on its
own (log entry 10). -/
def Obligations.WriteMemoryCommandsOnlyLoad : Prop :=
  (∀ a : VAddr, decodeCw (0b01#2 ++ a) = .cmdWriteVram a ∧ decodeCw (0b11#2 ++ a) = .cmdWriteCram a) ∧
  ∀ (s : State) (a : VAddr), s.initialised = true →
    exec (.cmdWriteVram a) s = .next { s with
      code := .writeVram, latch := .empty, addr := a, out := { returned := none, events := [] } } ∧
    exec (.cmdWriteCram a) s = .next { s with
      code := .writeCram, latch := .empty, addr := a, out := { returned := none, events := [] } }

/-- CMD.WRITE_REG writes the register of an index 0..10 and no register for an index 11..15; the word's 14 low bits become
`addr`, and nothing else changes but the events, which have their own statement (R125, R95, R20; D16). -/
def Obligations.WriteRegCommandWritesOneRegister : Prop :=
  ∀ (s : State) (u : BitVec 2) (idx : BitVec 4) (v : Byte), s.initialised = true →
    ∃ t, exec (.cmdWriteReg u idx v) s = .next t ∧
      (∀ j : Fin 11, t.reg j = if j.val = idx.toNat then v else s.reg j) ∧
      t.addr = u ++ idx ++ v ∧ t.code = .writeReg ∧ t.latch = .empty ∧ t.out.returned = none ∧
      t = { s with regs := t.regs, addr := t.addr, code := t.code, latch := t.latch, out := t.out }

/-- The events of CMD.WRITE_REG: one RequestINT when it takes an enable from 0 to 1 while that source's flag is pending, else
none (R126; D36). -/
def Obligations.EnableTransitionAsserts : Prop :=
  ∀ (s t : State) (u : BitVec 2) (idx : BitVec 4) (v : Byte), exec (.cmdWriteReg u idx v) s = .next t →
    t.out.events =
      if (idx = 0 ∧ (s.reg 0).getLsbD 4 = false ∧ v.getLsbD 4 = true ∧ s.linePending = true) ∨
         (idx = 1 ∧ (s.reg 1).getLsbD 5 = false ∧ v.getLsbD 5 = true ∧ s.framePending = true)
      then [.requestInt] else []

/-- WriteData, label 0x08, stores at `addr` modulo CRAM_SIZE in CRAM under code 3, else at `addr` in VRAM, sets the read buffer, increments
the address with 14-bit wrap, empties the latch, and changes no other byte of either memory and nothing else (R90, R128). That the
label is 0x08 is the spec's decision D2 (log entry 18); the premise `Stored` is usable parameters and memories in canonical form
(log entries 7 and 9). -/
def Obligations.WriteDataStoresOneByte : Prop :=
  (∀ b : Byte, decodeEv { ev := 0x08, d := b } = .writeData b) ∧
  ∀ (s : State) (b : Byte), s.initialised = true → s.Stored →
    ∃ t, exec (.writeData b) s = .next t ∧
      t.latch = .empty ∧ t.readBuf = b ∧ t.addr.toNat = (s.addr.toNat + 1) % 0x4000 ∧
      (s.code = .writeCram →
        (∀ a, t.vramByte a = s.vramByte a) ∧
        ∀ a, t.cram.read a = if a = s.addr.toNat % s.cramSize then b else s.cram.read a) ∧
      (s.code ≠ .writeCram →
        (∀ a, t.cram.read a = s.cram.read a) ∧
        ∀ a, t.vramByte a = if a % 0x4000 = s.addr.toNat then b else s.vramByte a) ∧
      t = { s with
        vram := t.vram, cram := t.cram, latch := t.latch, readBuf := t.readBuf, addr := t.addr
        out := { returned := none, events := [] } }

/-- GetDataPort, label 0x0C, returns the read buffer, refills it from VRAM at `addr` whatever the code, increments and empties the latch
(R90, R129). That the label is 0x0C is the spec's decision D2 (log entry 18). -/
def Obligations.GetDataPortReturnsThenRefills : Prop :=
  (∀ d : Byte, decodeEv { ev := 0x0C, d := d } = .getDataPort) ∧
  ∀ s : State, s.initialised = true →
    exec .getDataPort s = .next { s with
      readBuf := s.vramByte s.addr.toNat, addr := s.addr + 1, latch := .empty
      out := { returned := some s.readBuf, events := [] } }

/-- GetStatusFlags returns the status byte (bits 4..0 read as 0, D15), clears all five flags and empties the latch; INT is 0
afterwards, and a second read directly after it returns 0 (R130, R259, P2). -/
def Obligations.StatusReadReturnsAndAcknowledges : Prop :=
  ∀ s : State, s.initialised = true →
    ∃ r : Byte, (r.getLsbD 7 = s.status.frameIrq ∧ r.getLsbD 6 = s.status.spriteOverflow ∧
        r.getLsbD 5 = s.status.spriteCollision ∧ r.toNat % 32 = 0) ∧
      ∃ t, t = { s with
          status := { frameIrq := false, spriteOverflow := false, spriteCollision := false }
          linePending := false, framePending := false, latch := .empty
          out := { returned := some r, events := [] } } ∧
        exec .getStatusFlags s = .next t ∧ t.intLevel = false ∧
        exec .getStatusFlags t = .next { t with out := { returned := some 0, events := [] } }

/-- The counter reads return the V counter and the latched H counter and change no state, not even the latch (R132, R133;
D35); on the active display the V counter is the line itself, whatever table is configured (R169). The 0 written out for a line
beyond the table's end is the model's choice (log entry 13); no spec rule gives it. -/
def Obligations.CounterReadsChangeNothing : Prop :=
  ∀ s : State, s.initialised = true →
    exec .getVCounter s = .next { s with
      out := { returned := some ((s.params.vcTables.select s.pal s.gameGear).getD s.line.toNat 0), events := [] } } ∧
    exec .getHCounter s = .next { s with out := { returned := some s.hcLatch, events := [] } } ∧
    (s.params.Wf → s.line.toNat < 192 → s.vCounter = BitVec.ofNat 8 s.line.toNat)

/-- A write to the counter ports changes no state and emits nothing (R134; D2). -/
def Obligations.ReservedWritesChangeNothing : Prop :=
  ∀ (s : State) (d : Byte), s.initialised = true →
    exec (.reservedW2 d) s = .next { s with out := { returned := none, events := [] } } ∧
    exec (.reservedW3 d) s = .next { s with out := { returned := none, events := [] } }

/-- LATCHH copies the H-counter value of the current dot into `hc_latch` and changes nothing else (R172; D11, D12). The 0 written
out for a dot beyond the table's end is the model's choice (log entry 13); no spec rule gives it. -/
def Obligations.LatchHCopiesTheHCounter : Prop :=
  ∀ s : State, s.initialised = true →
    exec .latchH s = .next { s with
      hcLatch := s.params.hcTable.getD
        (min (s.cyc.toNat * s.params.dotsPerLine / s.params.cpl) (s.params.dotsPerLine - 1)) 0
      out := { returned := none, events := [] } }

/-! ### Who may write what (whole-machine rules) -/

/-- Registers are written by WRITE_REG and RESET only, VRAM by WriteData with a code other than 3 and RESET, CRAM by WriteData
with code 3 and RESET, the frame buffer by CLOCK, the info buffer by CLOCK and RESET (R20, R43, R44, R45, R46; R51 item 5). -/
def Obligations.WritersOfRegistersAndMemories : Prop :=
  ∀ (i : Instr) (s t : State), exec i s = .next t →
    (t.regs ≠ s.regs → (∃ u r v, i = .cmdWriteReg u r v) ∨ (∃ b, i = .writeControl b ∧ s.latch ≠ .empty) ∨
      ∃ g p, i = .reset g p) ∧
    (t.vram ≠ s.vram → (∃ b, i = .writeData b ∧ s.code ≠ .writeCram) ∨ ∃ g p, i = .reset g p) ∧
    (t.cram ≠ s.cram → (∃ b, i = .writeData b ∧ s.code = .writeCram) ∨ ∃ g p, i = .reset g p) ∧
    (t.fb ≠ s.fb → i = .clock) ∧
    (t.info ≠ s.info → i = .clock ∨ ∃ g p, i = .reset g p)

/-- The status flags are sticky: only a status read and RESET clear one. `frame_irq` is set by the line end of line 192 only, the
sprite flags by the line end of an active line only (R35). The pending flags likewise (R36). -/
def Obligations.FlagsAreStickyUntilStatusReadOrReset : Prop :=
  ∀ (i : Instr) (s t : State), exec i s = .next t → i ≠ .getStatusFlags → (∀ g p, i ≠ .reset g p) →
    ((s.status.frameIrq = true → t.status.frameIrq = true) ∧
      (s.status.spriteOverflow = true → t.status.spriteOverflow = true) ∧
      (s.status.spriteCollision = true → t.status.spriteCollision = true) ∧
      (s.linePending = true → t.linePending = true) ∧ (s.framePending = true → t.framePending = true)) ∧
    ((t.status.frameIrq ≠ s.status.frameIrq ∨ t.framePending ≠ s.framePending →
        i = .clock ∧ s.atLineEnd = true ∧ s.line.toNat = 192) ∧
      (t.status.spriteOverflow ≠ s.status.spriteOverflow ∨ t.status.spriteCollision ≠ s.status.spriteCollision →
        i = .clock ∧ s.atLineEnd = true ∧ s.line.toNat < 192) ∧
      (t.linePending ≠ s.linePending →
        i = .clock ∧ s.atLineEnd = true ∧ s.line.toNat ≤ s.params.lcLastDecLine ∧ s.lineCounter = 0))

/-- `code` and a newly loaded `addr` come only from a completed command word or RESET; besides that `addr` only steps by one, at
WriteData and GetDataPort; `read_buf` changes only with a pre-fetch, a data-port access or RESET (R38, R39; R51 item 6). -/
def Obligations.WritersOfAddressCodeAndReadBuffer : Prop :=
  ∀ (i : Instr) (s t : State), exec i s = .next t → (∀ g p, i ≠ .reset g p) → (∀ w, i ≠ decodeCw w) →
    (∀ b, i = .writeControl b → s.latch = .empty) →
    t.code = s.code ∧
    ((∃ b, i = .writeData b) ∨ i = .getDataPort → t.addr = s.addr + 1) ∧
    ((∀ b, i ≠ .writeData b) → i ≠ .getDataPort → t.addr = s.addr ∧ t.readBuf = s.readBuf)

/-- The beam position, the line length, `hblank`, the line counter and the latched vertical scroll change only at CLOCK and
RESET; `hc_latch` only at LATCHH and RESET; the straps only at RESET; the parameters and the labels still waiting at no
operation (R32, R33, R34, R40, R41, R42, R47, R49, R120). -/
def Obligations.WritersOfTimingStateAndStraps : Prop :=
  ∀ (i : Instr) (s t : State), exec i s = .next t →
    t.params = s.params ∧ t.input = s.input ∧
    ((∀ g p, i ≠ .reset g p) →
      t.gameGear = s.gameGear ∧ t.pal = s.pal ∧ t.initialised = s.initialised ∧
      (i ≠ .latchH → t.hcLatch = s.hcLatch) ∧
      (i ≠ .clock → t.line = s.line ∧ t.cyc = s.cyc ∧ t.fracAcc = s.fracAcc ∧ t.lineLen = s.lineLen ∧
        t.hblank = s.hblank ∧ t.lineCounter = s.lineCounter ∧ t.vscrollLatched = s.vscrollLatched))

/-- The latch holds a byte only after a first control byte, and only operations that leave it alone can keep it there: CLOCK,
LATCHH, the counter reads and the reserved writes (R121, R72, R73). -/
def Obligations.LatchIsHalfFullOnlyBetweenTheTwoBytes : Prop :=
  ∀ (i : Instr) (s t : State) (lo : Byte), exec i s = .next t → t.latch = .halfFull lo →
    (i = .writeControl lo ∧ s.latch = .empty) ∨
    (s.latch = .halfFull lo ∧ (i = .clock ∨ i = .latchH ∨ i = .getVCounter ∨ i = .getHCounter ∨
      (∃ d, i = .reservedW2 d) ∨ ∃ d, i = .reservedW3 d))

/-! ### The timing engine -/

/-- A CLOCK that is not a line end changes `cyc` and possibly `hblank` and nothing else (R150). -/
def Obligations.ClockInsideALineOnlyMovesTheBeam : Prop :=
  ∀ s : State, s.initialised = true → s.cyc.toNat + 1 ≠ s.lineLen →
    exec .clock s = .next { s with
      cyc := s.cyc + 1
      hblank := decide (s.lineLen ≤ (s.cyc + 1).toNat + s.params.hblankCycles)
      out := { returned := none, events := [] } }

/-- A CLOCK that ends a line leaves the registers, VRAM, CRAM, the port protocol's elements, the H latch and the straps as they
are (R151, R164). -/
def Obligations.ClockAtALineEndLeavesTheHostsStateAlone : Prop :=
  ∀ s : State, s.initialised = true → s.cyc.toNat + 1 = s.lineLen →
    ∃ t, exec .clock s = .next t ∧
      t = { s with
        info := t.info, status := t.status, linePending := t.linePending, framePending := t.framePending
        line := t.line, cyc := t.cyc, fracAcc := t.fracAcc, lineLen := t.lineLen, hblank := t.hblank
        lineCounter := t.lineCounter, vscrollLatched := t.vscrollLatched, fb := t.fb, out := t.out }

/-- The line end moves the beam to the start of the next line, and after the last line to (0, 0); the vertical scroll is latched
and FrameReady emitted there and only there (R152, R163, R164, R165). -/
def Obligations.LineEndMovesTheBeamAndEndsTheFrame : Prop :=
  ∀ s : State, s.initialised = true → s.cyc.toNat + 1 = s.lineLen → s.line.toNat < s.linesPerFrame →
    ∃ t, exec .clock s = .next t ∧ t.cyc = 0 ∧
      (s.line.toNat + 1 < s.linesPerFrame →
        t.line.toNat = s.line.toNat + 1 ∧ t.vscrollLatched = s.vscrollLatched ∧ Event.frameReady ∉ t.out.events) ∧
      (s.line.toNat + 1 = s.linesPerFrame →
        t.line = 0 ∧ t.vscrollLatched = s.reg 9 ∧ t.out.events.count .frameReady = 1)

/-- The line counter: decrement or underflow at the end of lines up to LC_LAST_DEC_LINE, held at `reg[10]` after it; an underflow
reloads it and sets `line_pending` (R156, R157, R158; D7). -/
def Obligations.LineEndStepsTheLineCounter : Prop :=
  ∀ s : State, s.initialised = true → s.cyc.toNat + 1 = s.lineLen →
    ∃ t, exec .clock s = .next t ∧
      (s.line.toNat ≤ s.params.lcLastDecLine → s.lineCounter ≠ 0 →
        t.lineCounter.toNat + 1 = s.lineCounter.toNat ∧ t.linePending = s.linePending) ∧
      (s.line.toNat ≤ s.params.lcLastDecLine → s.lineCounter = 0 →
        t.lineCounter = s.reg 10 ∧ t.linePending = true) ∧
      (s.params.lcLastDecLine < s.line.toNat → t.lineCounter = s.reg 10 ∧ t.linePending = s.linePending)

/-- The frame interrupt: at the end of line 192 `status.frame_irq` and `frame_pending` become 1, whatever the enable; at the end
of any other line they stay as they are (R161, R254). -/
def Obligations.LineEndOfLine192SetsTheFrameFlags : Prop :=
  ∀ s : State, s.initialised = true → s.cyc.toNat + 1 = s.lineLen →
    ∃ t, exec .clock s = .next t ∧
      (s.line.toNat = 192 → t.status.frameIrq = true ∧ t.framePending = true) ∧
      (s.line.toNat ≠ 192 → t.status.frameIrq = s.status.frameIrq ∧ t.framePending = s.framePending)

/-- The events of a line end, in this order: a RequestINT of the line source, one of the frame source, FrameReady, each exactly
when its condition holds (R157, R161, R162, R165; D6, D9). -/
def Obligations.LineEndEmitsItsEventsInOrder : Prop :=
  ∀ s : State, s.initialised = true → s.cyc.toNat + 1 = s.lineLen →
    ∃ t, exec .clock s = .next t ∧ t.out.returned = none ∧
      t.out.events =
        (if s.line.toNat ≤ s.params.lcLastDecLine ∧ s.lineCounter = 0 ∧ (s.reg 0).getLsbD 4 = true
          then [.requestInt] else []) ++
        (if s.line.toNat = 192 ∧ (s.reg 1).getLsbD 5 = true then [.requestInt] else []) ++
        (if s.line.toNat = s.linesPerFrame - 1 then [.frameReady] else [])

/-- The fractional adjustment keeps the account exact: the length given to the next line, plus what is carried over, is
`CPL` plus the old fraction and FRAC_NUM, in units of one FRAC_DEN-th of a CLOCK step; the carry stays below FRAC_DEN
(R153; D3, D4). -/
def Obligations.NextLineLengthKeepsTheFraction : Prop :=
  ∀ s : State, s.initialised = true → s.params.FracOk → s.fracAcc < s.params.fracDen → s.cyc.toNat + 1 = s.lineLen →
    ∃ t, exec .clock s = .next t ∧ t.fracAcc < s.params.fracDen ∧
      (t.lineLen = s.params.cpl ∨ t.lineLen = s.params.cpl + 1) ∧
      t.lineLen * s.params.fracDen + t.fracAcc =
        s.params.cpl * s.params.fracDen + s.fracAcc + s.params.fracNum

/-- After every CLOCK step `hblank` is 1 exactly when `cyc >= line_len - HBLANK_CYCLES`, taken over the integers (R167, R34;
D10). -/
def Obligations.HblankFollowsTheBeam : Prop :=
  ∀ s : State, s.initialised = true →
    ∃ t, exec .clock s = .next t ∧
      (t.hblank = true ↔ (t.cyc.toNat : Int) ≥ (t.lineLen : Int) - (t.params.hblankCycles : Int))

/-- Tick(n) that stays inside the line is n CLOCK steps that change `cyc`, `hblank` and nothing else, and returns false
(R166, R150; D5). -/
def Obligations.TickInsideALineOnlyMovesTheBeam : Prop :=
  ∀ (s : State) (n : Nat), s.initialised = true → s.params.Wf → s.lineLen ≤ s.params.cpl + 1 → 0 < n →
    s.cyc.toNat + n < s.lineLen →
    ∃ t, tick n s = .next (t, false) ∧ t.cyc.toNat = s.cyc.toNat + n ∧
      t = { s with cyc := t.cyc, hblank := t.hblank, out := { returned := none, events := [] } }

/-- The beam after n CLOCK steps from the start of a frame, without a fractional adjustment: n modulo the frame length, counted
in steps, and FrameReady has been seen exactly when a whole frame has passed (R152, R164, R165, R166, R175). -/
def Obligations.BeamPositionAfterTicks : Prop :=
  ∀ (s : State) (n : Nat), s.Inv → s.params.fracNum = 0 → s.line = 0 → s.cyc = 0 → s.lineLen = s.params.cpl →
    ∃ t, tick n s = .next (t, decide (s.params.cpl * s.linesPerFrame ≤ n)) ∧
      t.line.toNat * s.params.cpl + t.cyc.toNat = n % (s.params.cpl * s.linesPerFrame)

/-- The first line after RESET: CPL - 1 CLOCK steps stay in line 0 with no line interrupt pending, and the CPL-th ends it, underflows
the line counter (which RESET left at 0) and sets `line_pending`, with no event since the enable is clear (R50, R159;
D8). -/
def Obligations.FirstLineAfterResetUnderflows : Prop :=
  ∀ (s : State) (g p : Bool), s.params.Wf →
    ∃ r t u, exec (.reset g p) s = .next r ∧ tick (s.params.cpl - 1) r = .next (t, false) ∧ t.linePending = false ∧
      t.line = 0 ∧ t.cyc.toNat = s.params.cpl - 1 ∧ exec .clock t = .next u ∧ u.linePending = true ∧
      u.line = 1 ∧ u.cyc = 0 ∧ u.out.events = []

/-! ### Interrupts -/

/-- Whenever a RequestINT is emitted INT is 1 after the step, and only a line end or a register write emits one (R256; D9). -/
def Obligations.RequestIntImpliesTheIntLevel : Prop :=
  ∀ (i : Instr) (s t : State), exec i s = .next t → Event.requestInt ∈ t.out.events →
    ((t.linePending = true ∧ (t.reg 0).getLsbD 4 = true) ∨ (t.framePending = true ∧ (t.reg 1).getLsbD 5 = true)) ∧
    t.intLevel = true ∧
    ((i = .clock ∧ s.atLineEnd = true) ∨ (∃ u r v, i = .cmdWriteReg u r v) ∨
      ∃ b, i = .writeControl b ∧ s.latch ≠ .empty)

/-- The V counter changes only at a line end, or with the straps at RESET (R168). -/
def Obligations.VCounterChangesOnlyAtALineEnd : Prop :=
  ∀ (i : Instr) (s t : State), exec i s = .next t → t.vCounter ≠ s.vCounter →
    (i = .clock ∧ s.cyc.toNat + 1 = s.lineLen) ∨ ∃ g p, i = .reset g p

/-! ### The picture -/

/-- The background pass in closed form: slot X shows name-table pixel column `(X - Hs) mod 256` at row `(L + Vs) mod (rows * 8)`,
each slot is written once, and the left mask blanks slots 0..7 (R190, R197, R198; D21, D22, D29). -/
def Obligations.BackgroundSlotIsTheScrolledPixel : Prop :=
  ∀ (s : State) (L : Nat) (X : Fin 256), (bgPass L s).info[X.val] = s.bgSlotAt L X.val

/-- No table address the rasterizers form exceeds 0x3FFF (R64; D34). -/
def Obligations.RasterTablesStayInsideVram : Prop :=
  ∀ (s : State) (L : Nat), s.params.Wf →
    (∀ Cx < 32, s.nameBase + (s.bgRow L).1 * 64 + Cx * 2 + 1 ≤ 0x3FFF) ∧
    (∀ (e : BitVec 16) (vf : Bool), (decodeEntry e).pat * 32 +
      (if vf then 7 - (s.bgRow L).2 else (s.bgRow L).2) * 4 + 3 ≤ 0x3FFF) ∧
    (∀ i < 64, s.satBase + 0x80 + 2 * i + 1 ≤ 0x3FFF) ∧
    (∀ (n : Byte) (r : Nat), r < s.spriteHeight →
      s.spritePatternBase + (if s.tallSprites then n &&& 0xFE else n).toNat * 32 + r * 4 + 3 ≤ 0x3FFF)

/-- Sprite overflow: the pass sets the flag exactly when more than eight sprites before the terminator cover the line, and never
clears it (R212, R214; D25, D39; P5). -/
def Obligations.OverflowIffANinthSpriteCoversTheLine : Prop :=
  ∀ (s : State) (L : Nat), (spritePass L s).status.spriteOverflow =
    (s.status.spriteOverflow || decide (8 < (s.coveringSprites L).length))

/-- Sprite against sprite: a free slot is taken by the contributing sprite of the lowest index with a non-zero pixel there; a slot
no such sprite reaches, or one already taken, is left alone; the background fields never change (R217, R218; D27). -/
def Obligations.SpriteSlotGoesToTheLowestIndex : Prop :=
  ∀ (s : State) (L : Nat) (X : Fin 256), (spritePass L s).info[X.val] =
    if s.info[X.val].spr = true then s.info[X.val]
    else match s.spriteOwner L X.val with
      | none => s.info[X.val]
      | some i => { s.info[X.val] with spr := true, sprIdx := s.spriteIndexAt L i X.val }

/-- Collision: the pass sets the flag exactly when a contributing sprite, of whatever index, has a non-zero pixel over a background
pixel of non-zero index, and never clears it (R219; D30). -/
def Obligations.CollisionIffSpriteMeetsOpaqueBackground : Prop :=
  ∀ (s : State) (L : Nat), (spritePass L s).status.spriteCollision = true ↔
    s.status.spriteCollision = true ∨
      ∃ i ∈ s.contributors L, ∃ X : Fin 256, s.spriteIndexAt L i X.val ≠ 0 ∧ s.info[X.val].bgIdx ≠ 0

/-- The output pass writes, on Master System, word `L*256 + X` for every column, and on Game Gear word `(L - 24)*160 + (X - 48)` for
the columns of the visible window on lines 24..167; every other word keeps its content (R230, R236; D17). -/
def Obligations.OutputPassWritesExactlyTheLinesWords : Prop :=
  ∀ (s : State) (L : Nat),
    (s.gameGear = false →
      (∀ X : Fin 256, (outputPass L s).fbWord (L * 256 + X.val) = some (s.colour (s.selectEntry s.info[X.val]))) ∧
      ∀ i, (i < L * 256 ∨ L * 256 + 256 ≤ i) → (outputPass L s).fbWord i = s.fbWord i) ∧
    (s.gameGear = true → 24 ≤ L → L ≤ 167 →
      (∀ X : Fin 256, 48 ≤ X.val → X.val ≤ 207 →
        (outputPass L s).fbWord ((L - 24) * 160 + (X.val - 48)) = some (s.colour (s.selectEntry s.info[X.val]))) ∧
      ∀ i, (i < (L - 24) * 160 ∨ (L - 24) * 160 + 160 ≤ i) → (outputPass L s).fbWord i = s.fbWord i) ∧
    (s.gameGear = true → (L < 24 ∨ 167 < L) → ∀ i, (outputPass L s).fbWord i = s.fbWord i)

/-- What CLOCK at the end of an active line leaves of the picture, from the registers, VRAM and CRAM as they are at that step: the
info buffer holds the closed form of both passes; `sprite_overflow` is set exactly when a ninth sprite covers the line and
`sprite_collision` exactly when a contributing sprite's pixel meets an opaque background pixel, and neither is cleared; on Master
System frame-buffer word `L*256 + X` takes the colour of the entry slot X selects, on Game Gear word `(L - 24)*160 + (X - 48)` does
for the columns 48..207 of the lines 24..167, and every other word keeps its content (R151, R154, R155, R214, R219, R230, R231,
R236; D17, D30, D39, D41). -/
def Obligations.LineEndShowsEveryPixelOfTheLine : Prop :=
  ∀ (s : State), s.initialised = true → s.cyc.toNat + 1 = s.lineLen → s.line.toNat < 192 →
    let L := s.line.toNat
    let shown := fun X : Fin 256 => some (s.colour (s.selectEntry (s.shownSlot L X.val)))
    ∃ t, exec .clock s = .next t ∧
      (∀ X : Fin 256, t.info[X.val] = s.shownSlot L X.val) ∧
      (t.status.spriteOverflow = true ↔ s.status.spriteOverflow = true ∨ 8 < (s.coveringSprites L).length) ∧
      (t.status.spriteCollision = true ↔ s.status.spriteCollision = true ∨
        ∃ i ∈ s.contributors L, ∃ X : Fin 256, s.spriteIndexAt L i X.val ≠ 0 ∧ (s.bgSlotAt L X.val).bgIdx ≠ 0) ∧
      (s.gameGear = false →
        (∀ X : Fin 256, t.fbWord (L * 256 + X.val) = shown X) ∧
        ∀ i, (i < L * 256 ∨ L * 256 + 256 ≤ i) → t.fbWord i = s.fbWord i) ∧
      (s.gameGear = true → 24 ≤ L → L ≤ 167 →
        (∀ X : Fin 256, 48 ≤ X.val → X.val ≤ 207 → t.fbWord ((L - 24) * 160 + (X.val - 48)) = shown X) ∧
        ∀ i, (i < (L - 24) * 160 ∨ (L - 24) * 160 + 160 ≤ i) → t.fbWord i = s.fbWord i) ∧
      (s.gameGear = true → (L < 24 ∨ 167 < L) → ∀ i, t.fbWord i = s.fbWord i)

/-- No line end outside the active display writes the info buffer or the frame buffer, or touches a sprite flag (R154, R236). -/
def Obligations.LinesBelowTheDisplayDrawNothing : Prop :=
  ∀ s : State, s.initialised = true → s.cyc.toNat + 1 = s.lineLen → 192 ≤ s.line.toNat →
    ∃ t, exec .clock s = .next t ∧ (∀ i, t.fbWord i = s.fbWord i) ∧ t.info = s.info ∧
      t.status.spriteOverflow = s.status.spriteOverflow ∧ t.status.spriteCollision = s.status.spriteCollision

/-- The decision table of SelectEntry, for every slot: a sprite that is not hidden selects `16 + spr_idx`, else a background index
of 0 selects the backdrop `16 + (reg[7] & 0x0F)`, else, also under a sprite hidden by priority, `bg_bank*16 + bg_idx`. For the slots
a line shows, the sprite's entry is its owner's and lies in 17..31, and every entry is below 32 (R67, R231, R232; D28). -/
def Obligations.ShownSlotsSelectLegalEntries : Prop :=
  ∀ s : State,
    (∀ slot : Slot,
      (slot.spr = true → (slot.bgPrio = false ∨ slot.bgIdx = 0) → s.selectEntry slot = 16 + slot.sprIdx.toNat) ∧
      (slot.spr = false → slot.bgIdx = 0 → s.selectEntry slot = 16 + ((s.reg 7).toNat &&& 0x0F)) ∧
      ((slot.spr = false ∨ slot.bgPrio = true) → slot.bgIdx ≠ 0 →
        s.selectEntry slot = (if slot.bgBank = true then 16 else 0) + slot.bgIdx.toNat)) ∧
    ∀ (L : Nat) (X : Fin 256),
      let bg := s.bgSlotAt L X.val
      let e := s.selectEntry (s.shownSlot L X.val)
      e < 32 ∧
      (∀ i, s.spriteOwner L X.val = some i → (bg.bgPrio = false ∨ bg.bgIdx = 0) →
        e = 16 + (s.spriteIndexAt L i X.val).toNat ∧ 17 ≤ e ∧ e ≤ 31) ∧
      (s.spriteOwner L X.val = none → bg.bgIdx = 0 → e = 16 + ((s.reg 7).toNat &&& 0x0F)) ∧
      ((s.spriteOwner L X.val = none ∨ bg.bgPrio = true) → bg.bgIdx ≠ 0 →
        e = (if bg.bgBank = true then 16 else 0) + bg.bgIdx.toNat)

/-- Colour conversion: on Master System every channel is 0, 85, 170 or 255 by its two bits, on Game Gear 17 times its four bits;
alpha is always 0xFF (R233, R234, R235; P6). -/
def Obligations.ColoursAreTheScaledChannels : Prop :=
  ∀ (s : State) (e : Nat), (s.colour e).a = 0xFF ∧
    (s.gameGear = false →
      (s.colour e).r.toNat = 85 * ((s.cramByte e).toNat % 4) ∧
      (s.colour e).g.toNat = 85 * ((s.cramByte e).toNat / 4 % 4) ∧
      (s.colour e).b.toNat = 85 * ((s.cramByte e).toNat / 16 % 4)) ∧
    (s.gameGear = true →
      (s.colour e).r.toNat = 17 * ((s.cramByte (2 * e)).toNat % 16) ∧
      (s.colour e).g.toNat = 17 * ((s.cramByte (2 * e)).toNat / 16) ∧
      (s.colour e).b.toNat = 17 * ((s.cramByte (2 * e + 1)).toNat % 16))

/-! ### Sequences of port operations -/

/-- `SETREG r, v` from an Empty latch: the register takes v if it exists, `code` = 2 and `addr` = `(r << 8) | v` (R108, R95,
R285). -/
def Obligations.SetRegSequenceWritesTheRegister : Prop :=
  ∀ (s : State) (r : BitVec 4) (v : Byte), s.initialised = true → s.latch = .empty →
    ∃ t outs, runInstrs (setRegOps r v) s = .next (t, outs) ∧
      (∀ j : Fin 11, t.reg j = if j.val = r.toNat then v else s.reg j) ∧
      t.code = .writeReg ∧ t.latch = .empty ∧ t.addr.toNat = r.toNat * 256 + v.toNat ∧
      t = { s with regs := t.regs, addr := t.addr, code := t.code, latch := t.latch, out := t.out }

/-- `VRAMW a`, `CRAMW a` and `VRAMR a` from an Empty latch (R108). -/
def Obligations.AddressSequencesLoadTheAddress : Prop :=
  ∀ (s : State) (a : VAddr), s.initialised = true → s.latch = .empty →
    (∃ outs, runInstrs (vramWOps a) s = .next ({ s with
      addr := a, code := .writeVram, out := { returned := none, events := [] } }, outs)) ∧
    (∃ outs, runInstrs (cramWOps a) s = .next ({ s with
      addr := a, code := .writeCram, out := { returned := none, events := [] } }, outs)) ∧
    (∃ outs, runInstrs (vramROps a) s = .next ({ s with
      addr := a + 1, code := .readVram, readBuf := s.vramByte a.toNat
      out := { returned := none, events := [] } }, outs))

/-- After `VRAMR a` successive data-port reads return `vram[a]`, `vram[a+1]`, ... with the 14-bit wrap (R74, R124, R129). -/
def Obligations.ReadStreamReturnsConsecutiveBytes : Prop :=
  ∀ (s : State) (a : VAddr) (n : Nat), s.initialised = true →
    ∃ t outs, runInstrs (.cmdReadVram a :: List.replicate n .getDataPort) s = .next (t, outs) ∧
      outs.tail.map (·.returned) = (List.range n).map fun k => some (s.vramByte (a.toNat + k))

/-- What is uploaded through the data port is what reads back: `VRAMW a`, the bytes, `VRAMR a`, and as many reads return those bytes
in order, for any start address, up to the whole of VRAM (R124, R127, R128, R129). -/
def Obligations.UploadedBytesReadBack : Prop :=
  ∀ (s : State) (a : VAddr) (bytes : List Byte), s.initialised = true → s.Stored → bytes.length ≤ 0x4000 →
    ∃ t outs, runInstrs (.cmdWriteVram a :: bytes.map Instr.writeData ++
        .cmdReadVram a :: List.replicate bytes.length .getDataPort) s = .next (t, outs) ∧
      (outs.drop (bytes.length + 2)).map (·.returned) = bytes.map some

/-! ### The invariant -/

/-- The invariant of R51 holds in the state after RESET. -/
def Obligations.InvariantHoldsAtReset : Prop := State.reset.Inv

/-- RESET establishes the invariant from every state whose parameters are usable and whose frame buffer is in rising order, power-on
and any half-finished operation among them (R282, R51). -/
def Obligations.ResetEstablishesTheInvariant : Prop :=
  ∀ (s t : State) (g p : Bool), s.params.Wf → Cells.rising s.fb = true → exec (.reset g p) s = .next t → t.Inv

/-- Every step keeps the invariant of R51: memories in canonical form and in range, `frame_pending` = `status.frame_irq`, the beam
inside the frame and the line, `hblank` by its condition, the unreachable half of CRAM zero on Master System. -/
def Obligations.EveryStepKeepsTheInvariant : Prop :=
  ∀ s t : State, s.Inv → step s = .next t → t.Inv

/-! ### The frame end -/

/-- FrameEnd, the end of line 261 (NTSC) or 312 (PAL): the vertical scroll is latched from `reg[9]`, `(line, cyc)` becomes (0, 0),
the V counter is reset, FrameReady is emitted and Tick returns true; the line-counter step of that line is a hold; the status and
pending flags, `addr`, `code`, `latch`, `read_buf` and all memories survive (R164). The premise on LC_LAST_DEC_LINE is R164's "(a
hold, rule R158)". -/
def Obligations.FrameEndLatchesScrollAndSignalsTheFrame : Prop :=
  ∀ s : State, s.initialised = true → s.cyc.toNat + 1 = s.lineLen → s.line.toNat = (if s.pal = true then 312 else 261) →
    s.params.lcLastDecLine < s.line.toNat →
    ∃ t, exec .clock s = .next t ∧ tick 1 s = .next (t, true) ∧ (s.params.Wf → t.vCounter = 0) ∧
      t = { s with
        vscrollLatched := s.reg 9, line := 0, cyc := 0, lineCounter := s.reg 10
        fracAcc := t.fracAcc, lineLen := t.lineLen, hblank := t.hblank
        out := { returned := none, events := [.frameReady] } }

/-- The vertical-scroll latch: the frame end copies `reg[9]` and nothing else but RESET, which leaves 0, changes the latched value; a
value written to `reg[9]` during a frame makes no difference to any CLOCK step but the frame end, whatever the line (R163). -/
def Obligations.VerticalScrollIsLatchedForTheNextFrame : Prop :=
  (∀ s : State, s.initialised = true → s.cyc.toNat + 1 = s.lineLen → s.line.toNat + 1 = s.linesPerFrame →
    ∃ t, exec .clock s = .next t ∧ t.vscrollLatched = s.reg 9) ∧
  (∀ (i : Instr) (s t : State), exec i s = .next t → t.vscrollLatched ≠ s.vscrollLatched →
    (i = .clock ∧ s.cyc.toNat + 1 = s.lineLen ∧ s.line.toNat + 1 = s.linesPerFrame) ∨
      ∃ g p, i = .reset g p ∧ t.vscrollLatched = 0) ∧
  (∀ (s : State) (g p : Bool), ∃ t, exec (.reset g p) s = .next t ∧ t.vscrollLatched = 0) ∧
  ∀ (s : State) (v : Byte), s.initialised = true →
    ¬ (s.cyc.toNat + 1 = s.lineLen ∧ s.line.toNat + 1 = s.linesPerFrame) →
    ∃ t, exec .clock s = .next t ∧ exec .clock (s.setReg 9 v) = .next (t.setReg 9 v)
end

