-- ==== Sys2Proof/Laws/Bits.lean ====
section
/-! SUPPORT. The bit fields of a command word (R93), read out of an appended word. -/

namespace Sys2Proof

section

variable (c u : BitVec 2) (a : VAddr) (i : BitVec 4) (d hi lo : Byte)

/-! ### A code in front of an address -/

theorem code_append_bit15 : (c ++ a).getLsbD 15 = c.getLsbD 1 := by
  rw [BitVec.getLsbD_append]; rfl

theorem code_append_bit14 : (c ++ a).getLsbD 14 = c.getLsbD 0 := by
  rw [BitVec.getLsbD_append]; rfl

theorem code_append_address : (c ++ a).extractLsb' 0 14 = a := by
  apply BitVec.eq_of_getLsbD_eq
  intro j hj
  rw [BitVec.getLsbD_extractLsb', Nat.zero_add, BitVec.getLsbD_append]
  simp [hj]

/-! ### The fields of a WRITE_REG word -/

theorem writeReg_word_unused : (c ++ (u ++ i ++ d)).extractLsb' 12 2 = u := by
  apply BitVec.eq_of_getLsbD_eq
  intro j hj
  simp only [BitVec.getLsbD_append, BitVec.getLsbD_extractLsb', hj]
  simp [show 12 + j < 14 by omega, show ¬ 12 + j < 8 by omega, show 12 + j - 8 - 4 = j by omega,
    show ¬ 12 + j - 8 < 4 by omega]

theorem writeReg_word_idx : (c ++ (u ++ i ++ d)).extractLsb' 8 4 = i := by
  apply BitVec.eq_of_getLsbD_eq
  intro j hj
  simp only [BitVec.getLsbD_append, BitVec.getLsbD_extractLsb', hj]
  simp [show 8 + j < 14 by omega, hj]

theorem writeReg_word_data : (c ++ (u ++ i ++ d)).extractLsb' 0 8 = d := by
  apply BitVec.eq_of_getLsbD_eq
  intro j hj
  simp only [BitVec.getLsbD_append, BitVec.getLsbD_extractLsb', hj]
  simp [hj, show j < 14 by omega]

/-- The fields of a WRITE_REG word join to its low 14 bits. -/
theorem writeReg_fields_join (w : BitVec 16) :
    w.extractLsb' 12 2 ++ w.extractLsb' 8 4 ++ w.extractLsb' 0 8 = w.extractLsb' 0 14 := by
  apply BitVec.eq_of_getLsbD_eq
  intro j hj
  simp only [BitVec.getLsbD_append, BitVec.getLsbD_extractLsb']
  by_cases h : j < 8
  · simp [h, hj]
  · by_cases h' : j - 8 < 4
    · simp [h, h', hj, show 8 + (j - 8) = j by omega]
    · simp [h, h', hj, show 12 + (j - 8 - 4) = j by omega, show j - 8 - 4 < 2 by omega]

theorem low14_idx (w : BitVec 16) : (w.extractLsb' 0 14).extractLsb' 8 4 = w.extractLsb' 8 4 := by
  apply BitVec.eq_of_getLsbD_eq
  intro j hj
  rw [BitVec.getLsbD_extractLsb', BitVec.getLsbD_extractLsb', BitVec.getLsbD_extractLsb']
  simp [hj, show 8 + j < 14 by omega]

theorem low14_data (w : BitVec 16) : (w.extractLsb' 0 14).extractLsb' 0 8 = w.extractLsb' 0 8 := by
  apply BitVec.eq_of_getLsbD_eq
  intro j hj
  rw [BitVec.getLsbD_extractLsb', BitVec.getLsbD_extractLsb', BitVec.getLsbD_extractLsb']
  simp [hj, show j < 14 by omega]

/-! ### Two control bytes -/

theorem bytes_append_bit15 : (hi ++ lo).getLsbD 15 = hi.getLsbD 7 := by
  rw [BitVec.getLsbD_append]; rfl

theorem bytes_append_bit14 : (hi ++ lo).getLsbD 14 = hi.getLsbD 6 := by
  rw [BitVec.getLsbD_append]; rfl

/-- The address the two bytes form is the low 14 bits of their word (R93, R94). -/
theorem assembleAddr_eq : Machine.assembleAddr hi lo = (hi ++ lo).extractLsb' 0 14 := by
  unfold Machine.assembleAddr
  apply BitVec.eq_of_getLsbD_eq
  intro j hj
  rw [BitVec.getLsbD_extractLsb', Nat.zero_add, BitVec.getLsbD_append]
  interval_cases j <;> simp

/-- The code the second byte carries (R92). -/
theorem assembleCode_eq : Machine.assembleCode hi =
    match hi.getLsbD 7, hi.getLsbD 6 with
    | false, false => .readVram
    | false, true => .writeVram
    | true, false => .writeReg
    | true, true => .writeCram := by
  unfold Machine.assembleCode Machine.Code.ofBits
  have h1 : ((hi >>> 6).setWidth 2).getLsbD 1 = hi.getLsbD 7 := by simp
  have h0 : ((hi >>> 6).setWidth 2).getLsbD 0 = hi.getLsbD 6 := by simp
  rewrite [h1, h0]
  rfl

/-- The two halves of a word join to it. -/
theorem halves_join (w : BitVec 16) : w.extractLsb' 8 8 ++ w.extractLsb' 0 8 = w := by
  apply BitVec.eq_of_getLsbD_eq
  intro j hj
  simp only [BitVec.getLsbD_append, BitVec.getLsbD_extractLsb']
  by_cases h : j < 8
  · simp [h]
  · simp [h, show 8 + (j - 8) = j by omega, show j - 8 < 8 by omega]

end

end Sys2Proof
end

