-- ==== Sys2Proof/Laws/State.lean ====
section
/-! SUPPORT. One lemma per field per update, so that no proof unfolds an update of State. -/

namespace Sys2Proof.Machine

section

variable (s : State) (i : Fin 11) (v : Byte)

@[simp] theorem setReg_regs : (s.setReg i v).regs = s.regs.set i.val v := by rfl
@[simp] theorem setReg_vram : (s.setReg i v).vram = s.vram := by rfl
@[simp] theorem setReg_cram : (s.setReg i v).cram = s.cram := by rfl
@[simp] theorem setReg_info : (s.setReg i v).info = s.info := by rfl
@[simp] theorem setReg_latch : (s.setReg i v).latch = s.latch := by rfl
@[simp] theorem setReg_addr : (s.setReg i v).addr = s.addr := by rfl
@[simp] theorem setReg_code : (s.setReg i v).code = s.code := by rfl
@[simp] theorem setReg_readBuf : (s.setReg i v).readBuf = s.readBuf := by rfl
@[simp] theorem setReg_status : (s.setReg i v).status = s.status := by rfl
@[simp] theorem setReg_linePending : (s.setReg i v).linePending = s.linePending := by rfl
@[simp] theorem setReg_framePending : (s.setReg i v).framePending = s.framePending := by rfl
@[simp] theorem setReg_line : (s.setReg i v).line = s.line := by rfl
@[simp] theorem setReg_cyc : (s.setReg i v).cyc = s.cyc := by rfl
@[simp] theorem setReg_fracAcc : (s.setReg i v).fracAcc = s.fracAcc := by rfl
@[simp] theorem setReg_lineLen : (s.setReg i v).lineLen = s.lineLen := by rfl
@[simp] theorem setReg_hblank : (s.setReg i v).hblank = s.hblank := by rfl
@[simp] theorem setReg_lineCounter : (s.setReg i v).lineCounter = s.lineCounter := by rfl
@[simp] theorem setReg_vscrollLatched : (s.setReg i v).vscrollLatched = s.vscrollLatched := by rfl
@[simp] theorem setReg_hcLatch : (s.setReg i v).hcLatch = s.hcLatch := by rfl
@[simp] theorem setReg_gameGear : (s.setReg i v).gameGear = s.gameGear := by rfl
@[simp] theorem setReg_pal : (s.setReg i v).pal = s.pal := by rfl
@[simp] theorem setReg_initialised : (s.setReg i v).initialised = s.initialised := by rfl
@[simp] theorem setReg_fb : (s.setReg i v).fb = s.fb := by rfl
@[simp] theorem setReg_params : (s.setReg i v).params = s.params := by rfl
@[simp] theorem setReg_input : (s.setReg i v).input = s.input := by rfl
@[simp] theorem setReg_out : (s.setReg i v).out = s.out := by rfl

end

section

variable (s : State)

@[simp] theorem beginStep_regs : (s.beginStep).regs = s.regs := by rfl
@[simp] theorem beginStep_vram : (s.beginStep).vram = s.vram := by rfl
@[simp] theorem beginStep_cram : (s.beginStep).cram = s.cram := by rfl
@[simp] theorem beginStep_info : (s.beginStep).info = s.info := by rfl
@[simp] theorem beginStep_latch : (s.beginStep).latch = s.latch := by rfl
@[simp] theorem beginStep_addr : (s.beginStep).addr = s.addr := by rfl
@[simp] theorem beginStep_code : (s.beginStep).code = s.code := by rfl
@[simp] theorem beginStep_readBuf : (s.beginStep).readBuf = s.readBuf := by rfl
@[simp] theorem beginStep_status : (s.beginStep).status = s.status := by rfl
@[simp] theorem beginStep_linePending : (s.beginStep).linePending = s.linePending := by rfl
@[simp] theorem beginStep_framePending : (s.beginStep).framePending = s.framePending := by rfl
@[simp] theorem beginStep_line : (s.beginStep).line = s.line := by rfl
@[simp] theorem beginStep_cyc : (s.beginStep).cyc = s.cyc := by rfl
@[simp] theorem beginStep_fracAcc : (s.beginStep).fracAcc = s.fracAcc := by rfl
@[simp] theorem beginStep_lineLen : (s.beginStep).lineLen = s.lineLen := by rfl
@[simp] theorem beginStep_hblank : (s.beginStep).hblank = s.hblank := by rfl
@[simp] theorem beginStep_lineCounter : (s.beginStep).lineCounter = s.lineCounter := by rfl
@[simp] theorem beginStep_vscrollLatched : (s.beginStep).vscrollLatched = s.vscrollLatched := by rfl
@[simp] theorem beginStep_hcLatch : (s.beginStep).hcLatch = s.hcLatch := by rfl
@[simp] theorem beginStep_gameGear : (s.beginStep).gameGear = s.gameGear := by rfl
@[simp] theorem beginStep_pal : (s.beginStep).pal = s.pal := by rfl
@[simp] theorem beginStep_initialised : (s.beginStep).initialised = s.initialised := by rfl
@[simp] theorem beginStep_fb : (s.beginStep).fb = s.fb := by rfl
@[simp] theorem beginStep_params : (s.beginStep).params = s.params := by rfl
@[simp] theorem beginStep_input : (s.beginStep).input = s.input := by rfl
@[simp] theorem beginStep_out : (s.beginStep).out = {} := by rfl

end

section

variable (s : State) (e : Event)

@[simp] theorem emit_regs : (s.emit e).regs = s.regs := by rfl
@[simp] theorem emit_vram : (s.emit e).vram = s.vram := by rfl
@[simp] theorem emit_cram : (s.emit e).cram = s.cram := by rfl
@[simp] theorem emit_info : (s.emit e).info = s.info := by rfl
@[simp] theorem emit_latch : (s.emit e).latch = s.latch := by rfl
@[simp] theorem emit_addr : (s.emit e).addr = s.addr := by rfl
@[simp] theorem emit_code : (s.emit e).code = s.code := by rfl
@[simp] theorem emit_readBuf : (s.emit e).readBuf = s.readBuf := by rfl
@[simp] theorem emit_status : (s.emit e).status = s.status := by rfl
@[simp] theorem emit_linePending : (s.emit e).linePending = s.linePending := by rfl
@[simp] theorem emit_framePending : (s.emit e).framePending = s.framePending := by rfl
@[simp] theorem emit_line : (s.emit e).line = s.line := by rfl
@[simp] theorem emit_cyc : (s.emit e).cyc = s.cyc := by rfl
@[simp] theorem emit_fracAcc : (s.emit e).fracAcc = s.fracAcc := by rfl
@[simp] theorem emit_lineLen : (s.emit e).lineLen = s.lineLen := by rfl
@[simp] theorem emit_hblank : (s.emit e).hblank = s.hblank := by rfl
@[simp] theorem emit_lineCounter : (s.emit e).lineCounter = s.lineCounter := by rfl
@[simp] theorem emit_vscrollLatched : (s.emit e).vscrollLatched = s.vscrollLatched := by rfl
@[simp] theorem emit_hcLatch : (s.emit e).hcLatch = s.hcLatch := by rfl
@[simp] theorem emit_gameGear : (s.emit e).gameGear = s.gameGear := by rfl
@[simp] theorem emit_pal : (s.emit e).pal = s.pal := by rfl
@[simp] theorem emit_initialised : (s.emit e).initialised = s.initialised := by rfl
@[simp] theorem emit_fb : (s.emit e).fb = s.fb := by rfl
@[simp] theorem emit_params : (s.emit e).params = s.params := by rfl
@[simp] theorem emit_input : (s.emit e).input = s.input := by rfl
@[simp] theorem emit_out : (s.emit e).out = { s.out with events := s.out.events ++ [e] } := by rfl

end

section

variable (s : State) (r : Byte)

@[simp] theorem returning_regs : (s.returning r).regs = s.regs := by rfl
@[simp] theorem returning_vram : (s.returning r).vram = s.vram := by rfl
@[simp] theorem returning_cram : (s.returning r).cram = s.cram := by rfl
@[simp] theorem returning_info : (s.returning r).info = s.info := by rfl
@[simp] theorem returning_latch : (s.returning r).latch = s.latch := by rfl
@[simp] theorem returning_addr : (s.returning r).addr = s.addr := by rfl
@[simp] theorem returning_code : (s.returning r).code = s.code := by rfl
@[simp] theorem returning_readBuf : (s.returning r).readBuf = s.readBuf := by rfl
@[simp] theorem returning_status : (s.returning r).status = s.status := by rfl
@[simp] theorem returning_linePending : (s.returning r).linePending = s.linePending := by rfl
@[simp] theorem returning_framePending : (s.returning r).framePending = s.framePending := by rfl
@[simp] theorem returning_line : (s.returning r).line = s.line := by rfl
@[simp] theorem returning_cyc : (s.returning r).cyc = s.cyc := by rfl
@[simp] theorem returning_fracAcc : (s.returning r).fracAcc = s.fracAcc := by rfl
@[simp] theorem returning_lineLen : (s.returning r).lineLen = s.lineLen := by rfl
@[simp] theorem returning_hblank : (s.returning r).hblank = s.hblank := by rfl
@[simp] theorem returning_lineCounter : (s.returning r).lineCounter = s.lineCounter := by rfl
@[simp] theorem returning_vscrollLatched : (s.returning r).vscrollLatched = s.vscrollLatched := by rfl
@[simp] theorem returning_hcLatch : (s.returning r).hcLatch = s.hcLatch := by rfl
@[simp] theorem returning_gameGear : (s.returning r).gameGear = s.gameGear := by rfl
@[simp] theorem returning_pal : (s.returning r).pal = s.pal := by rfl
@[simp] theorem returning_initialised : (s.returning r).initialised = s.initialised := by rfl
@[simp] theorem returning_fb : (s.returning r).fb = s.fb := by rfl
@[simp] theorem returning_params : (s.returning r).params = s.params := by rfl
@[simp] theorem returning_input : (s.returning r).input = s.input := by rfl
@[simp] theorem returning_out : (s.returning r).out = { s.out with returned := some r } := by rfl

end

section

variable (s : State) (a : Nat) (v : Byte)

@[simp] theorem vramWrite_regs : (s.vramWrite a v).regs = s.regs := by rfl
@[simp] theorem vramWrite_vram : (s.vramWrite a v).vram = s.vram.write (a % Config.vramSize) v := by rfl
@[simp] theorem vramWrite_cram : (s.vramWrite a v).cram = s.cram := by rfl
@[simp] theorem vramWrite_info : (s.vramWrite a v).info = s.info := by rfl
@[simp] theorem vramWrite_latch : (s.vramWrite a v).latch = s.latch := by rfl
@[simp] theorem vramWrite_addr : (s.vramWrite a v).addr = s.addr := by rfl
@[simp] theorem vramWrite_code : (s.vramWrite a v).code = s.code := by rfl
@[simp] theorem vramWrite_readBuf : (s.vramWrite a v).readBuf = s.readBuf := by rfl
@[simp] theorem vramWrite_status : (s.vramWrite a v).status = s.status := by rfl
@[simp] theorem vramWrite_linePending : (s.vramWrite a v).linePending = s.linePending := by rfl
@[simp] theorem vramWrite_framePending : (s.vramWrite a v).framePending = s.framePending := by rfl
@[simp] theorem vramWrite_line : (s.vramWrite a v).line = s.line := by rfl
@[simp] theorem vramWrite_cyc : (s.vramWrite a v).cyc = s.cyc := by rfl
@[simp] theorem vramWrite_fracAcc : (s.vramWrite a v).fracAcc = s.fracAcc := by rfl
@[simp] theorem vramWrite_lineLen : (s.vramWrite a v).lineLen = s.lineLen := by rfl
@[simp] theorem vramWrite_hblank : (s.vramWrite a v).hblank = s.hblank := by rfl
@[simp] theorem vramWrite_lineCounter : (s.vramWrite a v).lineCounter = s.lineCounter := by rfl
@[simp] theorem vramWrite_vscrollLatched : (s.vramWrite a v).vscrollLatched = s.vscrollLatched := by rfl
@[simp] theorem vramWrite_hcLatch : (s.vramWrite a v).hcLatch = s.hcLatch := by rfl
@[simp] theorem vramWrite_gameGear : (s.vramWrite a v).gameGear = s.gameGear := by rfl
@[simp] theorem vramWrite_pal : (s.vramWrite a v).pal = s.pal := by rfl
@[simp] theorem vramWrite_initialised : (s.vramWrite a v).initialised = s.initialised := by rfl
@[simp] theorem vramWrite_fb : (s.vramWrite a v).fb = s.fb := by rfl
@[simp] theorem vramWrite_params : (s.vramWrite a v).params = s.params := by rfl
@[simp] theorem vramWrite_input : (s.vramWrite a v).input = s.input := by rfl
@[simp] theorem vramWrite_out : (s.vramWrite a v).out = s.out := by rfl

end

section

variable (s : State) (a : Nat) (v : Byte)

@[simp] theorem cramWrite_regs : (s.cramWrite a v).regs = s.regs := by rfl
@[simp] theorem cramWrite_vram : (s.cramWrite a v).vram = s.vram := by rfl
@[simp] theorem cramWrite_cram : (s.cramWrite a v).cram = s.cram.write (a % s.cramSize) v := by rfl
@[simp] theorem cramWrite_info : (s.cramWrite a v).info = s.info := by rfl
@[simp] theorem cramWrite_latch : (s.cramWrite a v).latch = s.latch := by rfl
@[simp] theorem cramWrite_addr : (s.cramWrite a v).addr = s.addr := by rfl
@[simp] theorem cramWrite_code : (s.cramWrite a v).code = s.code := by rfl
@[simp] theorem cramWrite_readBuf : (s.cramWrite a v).readBuf = s.readBuf := by rfl
@[simp] theorem cramWrite_status : (s.cramWrite a v).status = s.status := by rfl
@[simp] theorem cramWrite_linePending : (s.cramWrite a v).linePending = s.linePending := by rfl
@[simp] theorem cramWrite_framePending : (s.cramWrite a v).framePending = s.framePending := by rfl
@[simp] theorem cramWrite_line : (s.cramWrite a v).line = s.line := by rfl
@[simp] theorem cramWrite_cyc : (s.cramWrite a v).cyc = s.cyc := by rfl
@[simp] theorem cramWrite_fracAcc : (s.cramWrite a v).fracAcc = s.fracAcc := by rfl
@[simp] theorem cramWrite_lineLen : (s.cramWrite a v).lineLen = s.lineLen := by rfl
@[simp] theorem cramWrite_hblank : (s.cramWrite a v).hblank = s.hblank := by rfl
@[simp] theorem cramWrite_lineCounter : (s.cramWrite a v).lineCounter = s.lineCounter := by rfl
@[simp] theorem cramWrite_vscrollLatched : (s.cramWrite a v).vscrollLatched = s.vscrollLatched := by rfl
@[simp] theorem cramWrite_hcLatch : (s.cramWrite a v).hcLatch = s.hcLatch := by rfl
@[simp] theorem cramWrite_gameGear : (s.cramWrite a v).gameGear = s.gameGear := by rfl
@[simp] theorem cramWrite_pal : (s.cramWrite a v).pal = s.pal := by rfl
@[simp] theorem cramWrite_initialised : (s.cramWrite a v).initialised = s.initialised := by rfl
@[simp] theorem cramWrite_fb : (s.cramWrite a v).fb = s.fb := by rfl
@[simp] theorem cramWrite_params : (s.cramWrite a v).params = s.params := by rfl
@[simp] theorem cramWrite_input : (s.cramWrite a v).input = s.input := by rfl
@[simp] theorem cramWrite_out : (s.cramWrite a v).out = s.out := by rfl

end

section

variable (s : State) (c : Code) (a : VAddr)

@[simp] theorem loadCommand_regs : (s.loadCommand c a).regs = s.regs := by rfl
@[simp] theorem loadCommand_vram : (s.loadCommand c a).vram = s.vram := by rfl
@[simp] theorem loadCommand_cram : (s.loadCommand c a).cram = s.cram := by rfl
@[simp] theorem loadCommand_info : (s.loadCommand c a).info = s.info := by rfl
@[simp] theorem loadCommand_latch : (s.loadCommand c a).latch = .empty := by rfl
@[simp] theorem loadCommand_addr : (s.loadCommand c a).addr = a := by rfl
@[simp] theorem loadCommand_code : (s.loadCommand c a).code = c := by rfl
@[simp] theorem loadCommand_readBuf : (s.loadCommand c a).readBuf = s.readBuf := by rfl
@[simp] theorem loadCommand_status : (s.loadCommand c a).status = s.status := by rfl
@[simp] theorem loadCommand_linePending : (s.loadCommand c a).linePending = s.linePending := by rfl
@[simp] theorem loadCommand_framePending : (s.loadCommand c a).framePending = s.framePending := by rfl
@[simp] theorem loadCommand_line : (s.loadCommand c a).line = s.line := by rfl
@[simp] theorem loadCommand_cyc : (s.loadCommand c a).cyc = s.cyc := by rfl
@[simp] theorem loadCommand_fracAcc : (s.loadCommand c a).fracAcc = s.fracAcc := by rfl
@[simp] theorem loadCommand_lineLen : (s.loadCommand c a).lineLen = s.lineLen := by rfl
@[simp] theorem loadCommand_hblank : (s.loadCommand c a).hblank = s.hblank := by rfl
@[simp] theorem loadCommand_lineCounter : (s.loadCommand c a).lineCounter = s.lineCounter := by rfl
@[simp] theorem loadCommand_vscrollLatched : (s.loadCommand c a).vscrollLatched = s.vscrollLatched := by rfl
@[simp] theorem loadCommand_hcLatch : (s.loadCommand c a).hcLatch = s.hcLatch := by rfl
@[simp] theorem loadCommand_gameGear : (s.loadCommand c a).gameGear = s.gameGear := by rfl
@[simp] theorem loadCommand_pal : (s.loadCommand c a).pal = s.pal := by rfl
@[simp] theorem loadCommand_initialised : (s.loadCommand c a).initialised = s.initialised := by rfl
@[simp] theorem loadCommand_fb : (s.loadCommand c a).fb = s.fb := by rfl
@[simp] theorem loadCommand_params : (s.loadCommand c a).params = s.params := by rfl
@[simp] theorem loadCommand_input : (s.loadCommand c a).input = s.input := by rfl
@[simp] theorem loadCommand_out : (s.loadCommand c a).out = s.out := by rfl

end

section

variable (s : State)

@[simp] theorem bumpAddr_regs : (s.bumpAddr).regs = s.regs := by rfl
@[simp] theorem bumpAddr_vram : (s.bumpAddr).vram = s.vram := by rfl
@[simp] theorem bumpAddr_cram : (s.bumpAddr).cram = s.cram := by rfl
@[simp] theorem bumpAddr_info : (s.bumpAddr).info = s.info := by rfl
@[simp] theorem bumpAddr_latch : (s.bumpAddr).latch = s.latch := by rfl
@[simp] theorem bumpAddr_addr : (s.bumpAddr).addr = s.addr + 1 := by rfl
@[simp] theorem bumpAddr_code : (s.bumpAddr).code = s.code := by rfl
@[simp] theorem bumpAddr_readBuf : (s.bumpAddr).readBuf = s.readBuf := by rfl
@[simp] theorem bumpAddr_status : (s.bumpAddr).status = s.status := by rfl
@[simp] theorem bumpAddr_linePending : (s.bumpAddr).linePending = s.linePending := by rfl
@[simp] theorem bumpAddr_framePending : (s.bumpAddr).framePending = s.framePending := by rfl
@[simp] theorem bumpAddr_line : (s.bumpAddr).line = s.line := by rfl
@[simp] theorem bumpAddr_cyc : (s.bumpAddr).cyc = s.cyc := by rfl
@[simp] theorem bumpAddr_fracAcc : (s.bumpAddr).fracAcc = s.fracAcc := by rfl
@[simp] theorem bumpAddr_lineLen : (s.bumpAddr).lineLen = s.lineLen := by rfl
@[simp] theorem bumpAddr_hblank : (s.bumpAddr).hblank = s.hblank := by rfl
@[simp] theorem bumpAddr_lineCounter : (s.bumpAddr).lineCounter = s.lineCounter := by rfl
@[simp] theorem bumpAddr_vscrollLatched : (s.bumpAddr).vscrollLatched = s.vscrollLatched := by rfl
@[simp] theorem bumpAddr_hcLatch : (s.bumpAddr).hcLatch = s.hcLatch := by rfl
@[simp] theorem bumpAddr_gameGear : (s.bumpAddr).gameGear = s.gameGear := by rfl
@[simp] theorem bumpAddr_pal : (s.bumpAddr).pal = s.pal := by rfl
@[simp] theorem bumpAddr_initialised : (s.bumpAddr).initialised = s.initialised := by rfl
@[simp] theorem bumpAddr_fb : (s.bumpAddr).fb = s.fb := by rfl
@[simp] theorem bumpAddr_params : (s.bumpAddr).params = s.params := by rfl
@[simp] theorem bumpAddr_input : (s.bumpAddr).input = s.input := by rfl
@[simp] theorem bumpAddr_out : (s.bumpAddr).out = s.out := by rfl

end

section

variable (s : State)

@[simp] theorem fillReadBuf_regs : (s.fillReadBuf).regs = s.regs := by rfl
@[simp] theorem fillReadBuf_vram : (s.fillReadBuf).vram = s.vram := by rfl
@[simp] theorem fillReadBuf_cram : (s.fillReadBuf).cram = s.cram := by rfl
@[simp] theorem fillReadBuf_info : (s.fillReadBuf).info = s.info := by rfl
@[simp] theorem fillReadBuf_latch : (s.fillReadBuf).latch = s.latch := by rfl
@[simp] theorem fillReadBuf_addr : (s.fillReadBuf).addr = s.addr + 1 := by rfl
@[simp] theorem fillReadBuf_code : (s.fillReadBuf).code = s.code := by rfl
@[simp] theorem fillReadBuf_readBuf : (s.fillReadBuf).readBuf = s.vramByte s.addr.toNat := by rfl
@[simp] theorem fillReadBuf_status : (s.fillReadBuf).status = s.status := by rfl
@[simp] theorem fillReadBuf_linePending : (s.fillReadBuf).linePending = s.linePending := by rfl
@[simp] theorem fillReadBuf_framePending : (s.fillReadBuf).framePending = s.framePending := by rfl
@[simp] theorem fillReadBuf_line : (s.fillReadBuf).line = s.line := by rfl
@[simp] theorem fillReadBuf_cyc : (s.fillReadBuf).cyc = s.cyc := by rfl
@[simp] theorem fillReadBuf_fracAcc : (s.fillReadBuf).fracAcc = s.fracAcc := by rfl
@[simp] theorem fillReadBuf_lineLen : (s.fillReadBuf).lineLen = s.lineLen := by rfl
@[simp] theorem fillReadBuf_hblank : (s.fillReadBuf).hblank = s.hblank := by rfl
@[simp] theorem fillReadBuf_lineCounter : (s.fillReadBuf).lineCounter = s.lineCounter := by rfl
@[simp] theorem fillReadBuf_vscrollLatched : (s.fillReadBuf).vscrollLatched = s.vscrollLatched := by rfl
@[simp] theorem fillReadBuf_hcLatch : (s.fillReadBuf).hcLatch = s.hcLatch := by rfl
@[simp] theorem fillReadBuf_gameGear : (s.fillReadBuf).gameGear = s.gameGear := by rfl
@[simp] theorem fillReadBuf_pal : (s.fillReadBuf).pal = s.pal := by rfl
@[simp] theorem fillReadBuf_initialised : (s.fillReadBuf).initialised = s.initialised := by rfl
@[simp] theorem fillReadBuf_fb : (s.fillReadBuf).fb = s.fb := by rfl
@[simp] theorem fillReadBuf_params : (s.fillReadBuf).params = s.params := by rfl
@[simp] theorem fillReadBuf_input : (s.fillReadBuf).input = s.input := by rfl
@[simp] theorem fillReadBuf_out : (s.fillReadBuf).out = s.out := by rfl

end

section

variable (s : State)

@[simp] theorem acknowledge_regs : (s.acknowledge).regs = s.regs := by rfl
@[simp] theorem acknowledge_vram : (s.acknowledge).vram = s.vram := by rfl
@[simp] theorem acknowledge_cram : (s.acknowledge).cram = s.cram := by rfl
@[simp] theorem acknowledge_info : (s.acknowledge).info = s.info := by rfl
@[simp] theorem acknowledge_latch : (s.acknowledge).latch = s.latch := by rfl
@[simp] theorem acknowledge_addr : (s.acknowledge).addr = s.addr := by rfl
@[simp] theorem acknowledge_code : (s.acknowledge).code = s.code := by rfl
@[simp] theorem acknowledge_readBuf : (s.acknowledge).readBuf = s.readBuf := by rfl
@[simp] theorem acknowledge_status : (s.acknowledge).status = {} := by rfl
@[simp] theorem acknowledge_linePending : (s.acknowledge).linePending = false := by rfl
@[simp] theorem acknowledge_framePending : (s.acknowledge).framePending = false := by rfl
@[simp] theorem acknowledge_line : (s.acknowledge).line = s.line := by rfl
@[simp] theorem acknowledge_cyc : (s.acknowledge).cyc = s.cyc := by rfl
@[simp] theorem acknowledge_fracAcc : (s.acknowledge).fracAcc = s.fracAcc := by rfl
@[simp] theorem acknowledge_lineLen : (s.acknowledge).lineLen = s.lineLen := by rfl
@[simp] theorem acknowledge_hblank : (s.acknowledge).hblank = s.hblank := by rfl
@[simp] theorem acknowledge_lineCounter : (s.acknowledge).lineCounter = s.lineCounter := by rfl
@[simp] theorem acknowledge_vscrollLatched : (s.acknowledge).vscrollLatched = s.vscrollLatched := by rfl
@[simp] theorem acknowledge_hcLatch : (s.acknowledge).hcLatch = s.hcLatch := by rfl
@[simp] theorem acknowledge_gameGear : (s.acknowledge).gameGear = s.gameGear := by rfl
@[simp] theorem acknowledge_pal : (s.acknowledge).pal = s.pal := by rfl
@[simp] theorem acknowledge_initialised : (s.acknowledge).initialised = s.initialised := by rfl
@[simp] theorem acknowledge_fb : (s.acknowledge).fb = s.fb := by rfl
@[simp] theorem acknowledge_params : (s.acknowledge).params = s.params := by rfl
@[simp] theorem acknowledge_input : (s.acknowledge).input = s.input := by rfl
@[simp] theorem acknowledge_out : (s.acknowledge).out = s.out := by rfl

end

section

variable (s : State) (b : Bool)

@[simp] theorem assertIf_regs : (s.assertIf b).regs = s.regs := by cases b <;> simp [State.assertIf, State.emit]
@[simp] theorem assertIf_vram : (s.assertIf b).vram = s.vram := by cases b <;> simp [State.assertIf, State.emit]
@[simp] theorem assertIf_cram : (s.assertIf b).cram = s.cram := by cases b <;> simp [State.assertIf, State.emit]
@[simp] theorem assertIf_info : (s.assertIf b).info = s.info := by cases b <;> simp [State.assertIf, State.emit]
@[simp] theorem assertIf_latch : (s.assertIf b).latch = s.latch := by cases b <;> simp [State.assertIf, State.emit]
@[simp] theorem assertIf_addr : (s.assertIf b).addr = s.addr := by cases b <;> simp [State.assertIf, State.emit]
@[simp] theorem assertIf_code : (s.assertIf b).code = s.code := by cases b <;> simp [State.assertIf, State.emit]
@[simp] theorem assertIf_readBuf : (s.assertIf b).readBuf = s.readBuf := by cases b <;> simp [State.assertIf, State.emit]
@[simp] theorem assertIf_status : (s.assertIf b).status = s.status := by cases b <;> simp [State.assertIf, State.emit]
@[simp] theorem assertIf_linePending : (s.assertIf b).linePending = s.linePending := by cases b <;> simp [State.assertIf, State.emit]
@[simp] theorem assertIf_framePending : (s.assertIf b).framePending = s.framePending := by cases b <;> simp [State.assertIf, State.emit]
@[simp] theorem assertIf_line : (s.assertIf b).line = s.line := by cases b <;> simp [State.assertIf, State.emit]
@[simp] theorem assertIf_cyc : (s.assertIf b).cyc = s.cyc := by cases b <;> simp [State.assertIf, State.emit]
@[simp] theorem assertIf_fracAcc : (s.assertIf b).fracAcc = s.fracAcc := by cases b <;> simp [State.assertIf, State.emit]
@[simp] theorem assertIf_lineLen : (s.assertIf b).lineLen = s.lineLen := by cases b <;> simp [State.assertIf, State.emit]
@[simp] theorem assertIf_hblank : (s.assertIf b).hblank = s.hblank := by cases b <;> simp [State.assertIf, State.emit]
@[simp] theorem assertIf_lineCounter : (s.assertIf b).lineCounter = s.lineCounter := by cases b <;> simp [State.assertIf, State.emit]
@[simp] theorem assertIf_vscrollLatched : (s.assertIf b).vscrollLatched = s.vscrollLatched := by cases b <;> simp [State.assertIf, State.emit]
@[simp] theorem assertIf_hcLatch : (s.assertIf b).hcLatch = s.hcLatch := by cases b <;> simp [State.assertIf, State.emit]
@[simp] theorem assertIf_gameGear : (s.assertIf b).gameGear = s.gameGear := by cases b <;> simp [State.assertIf, State.emit]
@[simp] theorem assertIf_pal : (s.assertIf b).pal = s.pal := by cases b <;> simp [State.assertIf, State.emit]
@[simp] theorem assertIf_initialised : (s.assertIf b).initialised = s.initialised := by cases b <;> simp [State.assertIf, State.emit]
@[simp] theorem assertIf_fb : (s.assertIf b).fb = s.fb := by cases b <;> simp [State.assertIf, State.emit]
@[simp] theorem assertIf_params : (s.assertIf b).params = s.params := by cases b <;> simp [State.assertIf, State.emit]
@[simp] theorem assertIf_input : (s.assertIf b).input = s.input := by cases b <;> simp [State.assertIf, State.emit]
@[simp] theorem assertIf_out : (s.assertIf b).out = { s.out with events := s.out.events ++ if b then [.requestInt] else [] } := by cases b <;> simp [State.assertIf, State.emit]

end

section

variable (L : Nat) (s : State)

@[simp] theorem bgPass_regs : (bgPass L s).regs = s.regs := by rfl
@[simp] theorem bgPass_vram : (bgPass L s).vram = s.vram := by rfl
@[simp] theorem bgPass_cram : (bgPass L s).cram = s.cram := by rfl
@[simp] theorem bgPass_info : (bgPass L s).info = s.bgInfo L := by rfl
@[simp] theorem bgPass_latch : (bgPass L s).latch = s.latch := by rfl
@[simp] theorem bgPass_addr : (bgPass L s).addr = s.addr := by rfl
@[simp] theorem bgPass_code : (bgPass L s).code = s.code := by rfl
@[simp] theorem bgPass_readBuf : (bgPass L s).readBuf = s.readBuf := by rfl
@[simp] theorem bgPass_status : (bgPass L s).status = s.status := by rfl
@[simp] theorem bgPass_linePending : (bgPass L s).linePending = s.linePending := by rfl
@[simp] theorem bgPass_framePending : (bgPass L s).framePending = s.framePending := by rfl
@[simp] theorem bgPass_line : (bgPass L s).line = s.line := by rfl
@[simp] theorem bgPass_cyc : (bgPass L s).cyc = s.cyc := by rfl
@[simp] theorem bgPass_fracAcc : (bgPass L s).fracAcc = s.fracAcc := by rfl
@[simp] theorem bgPass_lineLen : (bgPass L s).lineLen = s.lineLen := by rfl
@[simp] theorem bgPass_hblank : (bgPass L s).hblank = s.hblank := by rfl
@[simp] theorem bgPass_lineCounter : (bgPass L s).lineCounter = s.lineCounter := by rfl
@[simp] theorem bgPass_vscrollLatched : (bgPass L s).vscrollLatched = s.vscrollLatched := by rfl
@[simp] theorem bgPass_hcLatch : (bgPass L s).hcLatch = s.hcLatch := by rfl
@[simp] theorem bgPass_gameGear : (bgPass L s).gameGear = s.gameGear := by rfl
@[simp] theorem bgPass_pal : (bgPass L s).pal = s.pal := by rfl
@[simp] theorem bgPass_initialised : (bgPass L s).initialised = s.initialised := by rfl
@[simp] theorem bgPass_fb : (bgPass L s).fb = s.fb := by rfl
@[simp] theorem bgPass_params : (bgPass L s).params = s.params := by rfl
@[simp] theorem bgPass_input : (bgPass L s).input = s.input := by rfl
@[simp] theorem bgPass_out : (bgPass L s).out = s.out := by rfl

end

section

variable (L : Nat) (s : State)

@[simp] theorem spritePass_regs : (spritePass L s).regs = s.regs := by rfl
@[simp] theorem spritePass_vram : (spritePass L s).vram = s.vram := by rfl
@[simp] theorem spritePass_cram : (spritePass L s).cram = s.cram := by rfl
@[simp] theorem spritePass_info : (spritePass L s).info = (s.spriteResult L).info := by rfl
@[simp] theorem spritePass_latch : (spritePass L s).latch = s.latch := by rfl
@[simp] theorem spritePass_addr : (spritePass L s).addr = s.addr := by rfl
@[simp] theorem spritePass_code : (spritePass L s).code = s.code := by rfl
@[simp] theorem spritePass_readBuf : (spritePass L s).readBuf = s.readBuf := by rfl
@[simp] theorem spritePass_status : (spritePass L s).status = s.status.withSprites (s.spriteResult L).overflow (s.spriteResult L).collision := by rfl
@[simp] theorem spritePass_linePending : (spritePass L s).linePending = s.linePending := by rfl
@[simp] theorem spritePass_framePending : (spritePass L s).framePending = s.framePending := by rfl
@[simp] theorem spritePass_line : (spritePass L s).line = s.line := by rfl
@[simp] theorem spritePass_cyc : (spritePass L s).cyc = s.cyc := by rfl
@[simp] theorem spritePass_fracAcc : (spritePass L s).fracAcc = s.fracAcc := by rfl
@[simp] theorem spritePass_lineLen : (spritePass L s).lineLen = s.lineLen := by rfl
@[simp] theorem spritePass_hblank : (spritePass L s).hblank = s.hblank := by rfl
@[simp] theorem spritePass_lineCounter : (spritePass L s).lineCounter = s.lineCounter := by rfl
@[simp] theorem spritePass_vscrollLatched : (spritePass L s).vscrollLatched = s.vscrollLatched := by rfl
@[simp] theorem spritePass_hcLatch : (spritePass L s).hcLatch = s.hcLatch := by rfl
@[simp] theorem spritePass_gameGear : (spritePass L s).gameGear = s.gameGear := by rfl
@[simp] theorem spritePass_pal : (spritePass L s).pal = s.pal := by rfl
@[simp] theorem spritePass_initialised : (spritePass L s).initialised = s.initialised := by rfl
@[simp] theorem spritePass_fb : (spritePass L s).fb = s.fb := by rfl
@[simp] theorem spritePass_params : (spritePass L s).params = s.params := by rfl
@[simp] theorem spritePass_input : (spritePass L s).input = s.input := by rfl
@[simp] theorem spritePass_out : (spritePass L s).out = s.out := by rfl

end

section

variable (L : Nat) (s : State)

@[simp] theorem outputPass_regs : (outputPass L s).regs = s.regs := by rw [outputPass]
@[simp] theorem outputPass_vram : (outputPass L s).vram = s.vram := by rw [outputPass]
@[simp] theorem outputPass_cram : (outputPass L s).cram = s.cram := by rw [outputPass]
@[simp] theorem outputPass_info : (outputPass L s).info = s.info := by rw [outputPass]
@[simp] theorem outputPass_latch : (outputPass L s).latch = s.latch := by rw [outputPass]
@[simp] theorem outputPass_addr : (outputPass L s).addr = s.addr := by rw [outputPass]
@[simp] theorem outputPass_code : (outputPass L s).code = s.code := by rw [outputPass]
@[simp] theorem outputPass_readBuf : (outputPass L s).readBuf = s.readBuf := by rw [outputPass]
@[simp] theorem outputPass_status : (outputPass L s).status = s.status := by rw [outputPass]
@[simp] theorem outputPass_linePending : (outputPass L s).linePending = s.linePending := by rw [outputPass]
@[simp] theorem outputPass_framePending : (outputPass L s).framePending = s.framePending := by rw [outputPass]
@[simp] theorem outputPass_line : (outputPass L s).line = s.line := by rw [outputPass]
@[simp] theorem outputPass_cyc : (outputPass L s).cyc = s.cyc := by rw [outputPass]
@[simp] theorem outputPass_fracAcc : (outputPass L s).fracAcc = s.fracAcc := by rw [outputPass]
@[simp] theorem outputPass_lineLen : (outputPass L s).lineLen = s.lineLen := by rw [outputPass]
@[simp] theorem outputPass_hblank : (outputPass L s).hblank = s.hblank := by rw [outputPass]
@[simp] theorem outputPass_lineCounter : (outputPass L s).lineCounter = s.lineCounter := by rw [outputPass]
@[simp] theorem outputPass_vscrollLatched : (outputPass L s).vscrollLatched = s.vscrollLatched := by rw [outputPass]
@[simp] theorem outputPass_hcLatch : (outputPass L s).hcLatch = s.hcLatch := by rw [outputPass]
@[simp] theorem outputPass_gameGear : (outputPass L s).gameGear = s.gameGear := by rw [outputPass]
@[simp] theorem outputPass_pal : (outputPass L s).pal = s.pal := by rw [outputPass]
@[simp] theorem outputPass_initialised : (outputPass L s).initialised = s.initialised := by rw [outputPass]
@[simp] theorem outputPass_fb : (outputPass L s).fb = s.outputFb L := by rw [outputPass]
@[simp] theorem outputPass_params : (outputPass L s).params = s.params := by rw [outputPass]
@[simp] theorem outputPass_input : (outputPass L s).input = s.input := by rw [outputPass]
@[simp] theorem outputPass_out : (outputPass L s).out = s.out := by rw [outputPass]

end

section

variable (L : Nat) (s : State)

@[simp] theorem nextLine_regs : (nextLine L s).regs = s.regs := by rfl
@[simp] theorem nextLine_vram : (nextLine L s).vram = s.vram := by rfl
@[simp] theorem nextLine_cram : (nextLine L s).cram = s.cram := by rfl
@[simp] theorem nextLine_info : (nextLine L s).info = s.info := by rfl
@[simp] theorem nextLine_latch : (nextLine L s).latch = s.latch := by rfl
@[simp] theorem nextLine_addr : (nextLine L s).addr = s.addr := by rfl
@[simp] theorem nextLine_code : (nextLine L s).code = s.code := by rfl
@[simp] theorem nextLine_readBuf : (nextLine L s).readBuf = s.readBuf := by rfl
@[simp] theorem nextLine_status : (nextLine L s).status = s.status := by rfl
@[simp] theorem nextLine_linePending : (nextLine L s).linePending = s.linePending := by rfl
@[simp] theorem nextLine_framePending : (nextLine L s).framePending = s.framePending := by rfl
@[simp] theorem nextLine_line : (nextLine L s).line = BitVec.ofNat 9 (L + 1) := by rfl
@[simp] theorem nextLine_cyc : (nextLine L s).cyc = 0 := by rfl
@[simp] theorem nextLine_fracAcc : (nextLine L s).fracAcc = s.fracAcc := by rfl
@[simp] theorem nextLine_lineLen : (nextLine L s).lineLen = s.lineLen := by rfl
@[simp] theorem nextLine_hblank : (nextLine L s).hblank = s.hblank := by rfl
@[simp] theorem nextLine_lineCounter : (nextLine L s).lineCounter = s.lineCounter := by rfl
@[simp] theorem nextLine_vscrollLatched : (nextLine L s).vscrollLatched = s.vscrollLatched := by rfl
@[simp] theorem nextLine_hcLatch : (nextLine L s).hcLatch = s.hcLatch := by rfl
@[simp] theorem nextLine_gameGear : (nextLine L s).gameGear = s.gameGear := by rfl
@[simp] theorem nextLine_pal : (nextLine L s).pal = s.pal := by rfl
@[simp] theorem nextLine_initialised : (nextLine L s).initialised = s.initialised := by rfl
@[simp] theorem nextLine_fb : (nextLine L s).fb = s.fb := by rfl
@[simp] theorem nextLine_params : (nextLine L s).params = s.params := by rfl
@[simp] theorem nextLine_input : (nextLine L s).input = s.input := by rfl
@[simp] theorem nextLine_out : (nextLine L s).out = s.out := by rfl

end

section

variable (s : State)

@[simp] theorem frameEnd_regs : (frameEnd s).regs = s.regs := by rfl
@[simp] theorem frameEnd_vram : (frameEnd s).vram = s.vram := by rfl
@[simp] theorem frameEnd_cram : (frameEnd s).cram = s.cram := by rfl
@[simp] theorem frameEnd_info : (frameEnd s).info = s.info := by rfl
@[simp] theorem frameEnd_latch : (frameEnd s).latch = s.latch := by rfl
@[simp] theorem frameEnd_addr : (frameEnd s).addr = s.addr := by rfl
@[simp] theorem frameEnd_code : (frameEnd s).code = s.code := by rfl
@[simp] theorem frameEnd_readBuf : (frameEnd s).readBuf = s.readBuf := by rfl
@[simp] theorem frameEnd_status : (frameEnd s).status = s.status := by rfl
@[simp] theorem frameEnd_linePending : (frameEnd s).linePending = s.linePending := by rfl
@[simp] theorem frameEnd_framePending : (frameEnd s).framePending = s.framePending := by rfl
@[simp] theorem frameEnd_line : (frameEnd s).line = 0 := by rfl
@[simp] theorem frameEnd_cyc : (frameEnd s).cyc = 0 := by rfl
@[simp] theorem frameEnd_fracAcc : (frameEnd s).fracAcc = s.fracAcc := by rfl
@[simp] theorem frameEnd_lineLen : (frameEnd s).lineLen = s.lineLen := by rfl
@[simp] theorem frameEnd_hblank : (frameEnd s).hblank = s.hblank := by rfl
@[simp] theorem frameEnd_lineCounter : (frameEnd s).lineCounter = s.lineCounter := by rfl
@[simp] theorem frameEnd_vscrollLatched : (frameEnd s).vscrollLatched = s.reg 9 := by rfl
@[simp] theorem frameEnd_hcLatch : (frameEnd s).hcLatch = s.hcLatch := by rfl
@[simp] theorem frameEnd_gameGear : (frameEnd s).gameGear = s.gameGear := by rfl
@[simp] theorem frameEnd_pal : (frameEnd s).pal = s.pal := by rfl
@[simp] theorem frameEnd_initialised : (frameEnd s).initialised = s.initialised := by rfl
@[simp] theorem frameEnd_fb : (frameEnd s).fb = s.fb := by rfl
@[simp] theorem frameEnd_params : (frameEnd s).params = s.params := by rfl
@[simp] theorem frameEnd_input : (frameEnd s).input = s.input := by rfl
@[simp] theorem frameEnd_out : (frameEnd s).out = { s.out with events := s.out.events ++ [.frameReady] } := by rfl

end

section

variable (s : State)

@[simp] theorem updateHblank_regs : (updateHblank s).regs = s.regs := by rfl
@[simp] theorem updateHblank_vram : (updateHblank s).vram = s.vram := by rfl
@[simp] theorem updateHblank_cram : (updateHblank s).cram = s.cram := by rfl
@[simp] theorem updateHblank_info : (updateHblank s).info = s.info := by rfl
@[simp] theorem updateHblank_latch : (updateHblank s).latch = s.latch := by rfl
@[simp] theorem updateHblank_addr : (updateHblank s).addr = s.addr := by rfl
@[simp] theorem updateHblank_code : (updateHblank s).code = s.code := by rfl
@[simp] theorem updateHblank_readBuf : (updateHblank s).readBuf = s.readBuf := by rfl
@[simp] theorem updateHblank_status : (updateHblank s).status = s.status := by rfl
@[simp] theorem updateHblank_linePending : (updateHblank s).linePending = s.linePending := by rfl
@[simp] theorem updateHblank_framePending : (updateHblank s).framePending = s.framePending := by rfl
@[simp] theorem updateHblank_line : (updateHblank s).line = s.line := by rfl
@[simp] theorem updateHblank_cyc : (updateHblank s).cyc = s.cyc := by rfl
@[simp] theorem updateHblank_fracAcc : (updateHblank s).fracAcc = s.fracAcc := by rfl
@[simp] theorem updateHblank_lineLen : (updateHblank s).lineLen = s.lineLen := by rfl
@[simp] theorem updateHblank_hblank : (updateHblank s).hblank = s.inHblank := by rfl
@[simp] theorem updateHblank_lineCounter : (updateHblank s).lineCounter = s.lineCounter := by rfl
@[simp] theorem updateHblank_vscrollLatched : (updateHblank s).vscrollLatched = s.vscrollLatched := by rfl
@[simp] theorem updateHblank_hcLatch : (updateHblank s).hcLatch = s.hcLatch := by rfl
@[simp] theorem updateHblank_gameGear : (updateHblank s).gameGear = s.gameGear := by rfl
@[simp] theorem updateHblank_pal : (updateHblank s).pal = s.pal := by rfl
@[simp] theorem updateHblank_initialised : (updateHblank s).initialised = s.initialised := by rfl
@[simp] theorem updateHblank_fb : (updateHblank s).fb = s.fb := by rfl
@[simp] theorem updateHblank_params : (updateHblank s).params = s.params := by rfl
@[simp] theorem updateHblank_input : (updateHblank s).input = s.input := by rfl
@[simp] theorem updateHblank_out : (updateHblank s).out = s.out := by rfl

end

section

variable (s : State)

@[simp] theorem raiseLine_regs : (s.raiseLine).regs = s.regs := by simp [State.raiseLine]
@[simp] theorem raiseLine_vram : (s.raiseLine).vram = s.vram := by simp [State.raiseLine]
@[simp] theorem raiseLine_cram : (s.raiseLine).cram = s.cram := by simp [State.raiseLine]
@[simp] theorem raiseLine_info : (s.raiseLine).info = s.info := by simp [State.raiseLine]
@[simp] theorem raiseLine_latch : (s.raiseLine).latch = s.latch := by simp [State.raiseLine]
@[simp] theorem raiseLine_addr : (s.raiseLine).addr = s.addr := by simp [State.raiseLine]
@[simp] theorem raiseLine_code : (s.raiseLine).code = s.code := by simp [State.raiseLine]
@[simp] theorem raiseLine_readBuf : (s.raiseLine).readBuf = s.readBuf := by simp [State.raiseLine]
@[simp] theorem raiseLine_status : (s.raiseLine).status = s.status := by simp [State.raiseLine]
@[simp] theorem raiseLine_linePending : (s.raiseLine).linePending = true := by simp [State.raiseLine]
@[simp] theorem raiseLine_framePending : (s.raiseLine).framePending = s.framePending := by simp [State.raiseLine]
@[simp] theorem raiseLine_line : (s.raiseLine).line = s.line := by simp [State.raiseLine]
@[simp] theorem raiseLine_cyc : (s.raiseLine).cyc = s.cyc := by simp [State.raiseLine]
@[simp] theorem raiseLine_fracAcc : (s.raiseLine).fracAcc = s.fracAcc := by simp [State.raiseLine]
@[simp] theorem raiseLine_lineLen : (s.raiseLine).lineLen = s.lineLen := by simp [State.raiseLine]
@[simp] theorem raiseLine_hblank : (s.raiseLine).hblank = s.hblank := by simp [State.raiseLine]
@[simp] theorem raiseLine_lineCounter : (s.raiseLine).lineCounter = s.lineCounter := by simp [State.raiseLine]
@[simp] theorem raiseLine_vscrollLatched : (s.raiseLine).vscrollLatched = s.vscrollLatched := by simp [State.raiseLine]
@[simp] theorem raiseLine_hcLatch : (s.raiseLine).hcLatch = s.hcLatch := by simp [State.raiseLine]
@[simp] theorem raiseLine_gameGear : (s.raiseLine).gameGear = s.gameGear := by simp [State.raiseLine]
@[simp] theorem raiseLine_pal : (s.raiseLine).pal = s.pal := by simp [State.raiseLine]
@[simp] theorem raiseLine_initialised : (s.raiseLine).initialised = s.initialised := by simp [State.raiseLine]
@[simp] theorem raiseLine_fb : (s.raiseLine).fb = s.fb := by simp [State.raiseLine]
@[simp] theorem raiseLine_params : (s.raiseLine).params = s.params := by simp [State.raiseLine]
@[simp] theorem raiseLine_input : (s.raiseLine).input = s.input := by simp [State.raiseLine]
@[simp] theorem raiseLine_out : (s.raiseLine).out = { s.out with events := s.out.events ++ if s.lineEnable then [.requestInt] else [] } := by simp [State.raiseLine, State.lineEnable, State.reg]

end

section

variable (s : State)

@[simp] theorem raiseFrame_regs : (s.raiseFrame).regs = s.regs := by simp [State.raiseFrame]
@[simp] theorem raiseFrame_vram : (s.raiseFrame).vram = s.vram := by simp [State.raiseFrame]
@[simp] theorem raiseFrame_cram : (s.raiseFrame).cram = s.cram := by simp [State.raiseFrame]
@[simp] theorem raiseFrame_info : (s.raiseFrame).info = s.info := by simp [State.raiseFrame]
@[simp] theorem raiseFrame_latch : (s.raiseFrame).latch = s.latch := by simp [State.raiseFrame]
@[simp] theorem raiseFrame_addr : (s.raiseFrame).addr = s.addr := by simp [State.raiseFrame]
@[simp] theorem raiseFrame_code : (s.raiseFrame).code = s.code := by simp [State.raiseFrame]
@[simp] theorem raiseFrame_readBuf : (s.raiseFrame).readBuf = s.readBuf := by simp [State.raiseFrame]
@[simp] theorem raiseFrame_status : (s.raiseFrame).status = { s.status with frameIrq := true } := by simp [State.raiseFrame]
@[simp] theorem raiseFrame_linePending : (s.raiseFrame).linePending = s.linePending := by simp [State.raiseFrame]
@[simp] theorem raiseFrame_framePending : (s.raiseFrame).framePending = true := by simp [State.raiseFrame]
@[simp] theorem raiseFrame_line : (s.raiseFrame).line = s.line := by simp [State.raiseFrame]
@[simp] theorem raiseFrame_cyc : (s.raiseFrame).cyc = s.cyc := by simp [State.raiseFrame]
@[simp] theorem raiseFrame_fracAcc : (s.raiseFrame).fracAcc = s.fracAcc := by simp [State.raiseFrame]
@[simp] theorem raiseFrame_lineLen : (s.raiseFrame).lineLen = s.lineLen := by simp [State.raiseFrame]
@[simp] theorem raiseFrame_hblank : (s.raiseFrame).hblank = s.hblank := by simp [State.raiseFrame]
@[simp] theorem raiseFrame_lineCounter : (s.raiseFrame).lineCounter = s.lineCounter := by simp [State.raiseFrame]
@[simp] theorem raiseFrame_vscrollLatched : (s.raiseFrame).vscrollLatched = s.vscrollLatched := by simp [State.raiseFrame]
@[simp] theorem raiseFrame_hcLatch : (s.raiseFrame).hcLatch = s.hcLatch := by simp [State.raiseFrame]
@[simp] theorem raiseFrame_gameGear : (s.raiseFrame).gameGear = s.gameGear := by simp [State.raiseFrame]
@[simp] theorem raiseFrame_pal : (s.raiseFrame).pal = s.pal := by simp [State.raiseFrame]
@[simp] theorem raiseFrame_initialised : (s.raiseFrame).initialised = s.initialised := by simp [State.raiseFrame]
@[simp] theorem raiseFrame_fb : (s.raiseFrame).fb = s.fb := by simp [State.raiseFrame]
@[simp] theorem raiseFrame_params : (s.raiseFrame).params = s.params := by simp [State.raiseFrame]
@[simp] theorem raiseFrame_input : (s.raiseFrame).input = s.input := by simp [State.raiseFrame]
@[simp] theorem raiseFrame_out : (s.raiseFrame).out = { s.out with events := s.out.events ++ if s.frameEnable then [.requestInt] else [] } := by simp [State.raiseFrame, State.frameEnable, State.reg]

end

/-! ### The readers, where an update leaves what they read alone -/

@[simp] theorem beginStep_reg (s : State) (i : Fin 11) : s.beginStep.reg i = s.reg i := by rfl
@[simp] theorem beginStep_vramByte (s : State) (a : Nat) : s.beginStep.vramByte a = s.vramByte a := by rfl
@[simp] theorem beginStep_cramByte (s : State) (a : Nat) : s.beginStep.cramByte a = s.cramByte a := by rfl
@[simp] theorem beginStep_atLineEnd (s : State) : s.beginStep.atLineEnd = s.atLineEnd := by rfl
@[simp] theorem beginStep_vCounter (s : State) : s.beginStep.vCounter = s.vCounter := by rfl
@[simp] theorem beginStep_hCounter (s : State) : s.beginStep.hCounter = s.hCounter := by rfl
@[simp] theorem emit_reg (s : State) (e : Event) (i : Fin 11) : (s.emit e).reg i = s.reg i := by rfl
@[simp] theorem loadCommand_reg (s : State) (c : Code) (a : VAddr) (i : Fin 11) : (s.loadCommand c a).reg i = s.reg i := by rfl
@[simp] theorem loadCommand_vramByte (s : State) (c : Code) (a : VAddr) (x : Nat) :
    (s.loadCommand c a).vramByte x = s.vramByte x := rfl
@[simp] theorem returning_vramByte (s : State) (r : Byte) (x : Nat) : (s.returning r).vramByte x = s.vramByte x := by rfl

/-- A register reads as just written. -/
@[simp] theorem setReg_reg_same (s : State) (i : Fin 11) (v : Byte) : (s.setReg i v).reg i = v := by
  simp [State.reg]

/-- Another register reads as before. -/
theorem setReg_reg_other (s : State) {i j : Fin 11} (v : Byte) (h : j ≠ i) : (s.setReg i v).reg j = s.reg j := by
  have : i.val ≠ j.val := fun e => h (Fin.ext e.symm)
  simp [State.reg, this]

end Sys2Proof.Machine
end

