-- ==== Sys2Proof/Laws/Memory.lean ====
section
/-! SUPPORT. The laws of the sparse storage: read after write, the canonical form kept, equal readings are equal data. -/

namespace Sys2Proof.Machine

/-! ### Lists of cells -/

section

variable {α : Type}

theorem Cells.risingFrom_mono {lo lo' : Nat} (h : lo' ≤ lo) :
    ∀ {m : List (Nat × α)}, Cells.risingFrom lo m = true → Cells.risingFrom lo' m = true
  | [], _ => rfl
  | (k, v) :: rest, hm => by
    simp only [Cells.risingFrom, Bool.and_eq_true, decide_eq_true_eq] at hm ⊢
    exact ⟨by omega, hm.2⟩

/-- Below the bound nothing is listed. -/
theorem Cells.lookup_below {a : Nat} :
    ∀ {lo : Nat} {m : List (Nat × α)}, Cells.risingFrom lo m = true → a < lo → Cells.lookup m a = none
  | _, [], _, _ => rfl
  | lo, (k, v) :: rest, hm, ha => by
    simp only [Cells.risingFrom, Bool.and_eq_true, decide_eq_true_eq] at hm
    have h1 : a ≠ k := by omega
    have h2 : a < k := by omega
    simp [Cells.lookup, h1, h2]

/-- Reading what was just listed. -/
@[simp] theorem Cells.lookup_insert_same (a : Nat) (v : α) :
    ∀ m : List (Nat × α), Cells.lookup (Cells.insert m a v) a = some v
  | [] => by simp [Cells.insert, Cells.lookup]
  | (k, w) :: rest => by
    simp only [Cells.insert]
    split
    · simp [Cells.lookup]
    · split
      · simp [Cells.lookup]
      · rename_i h1 h2
        simp [Cells.lookup, h1, h2, Cells.lookup_insert_same a v rest]

/-- Listing a value leaves every other key alone. -/
theorem Cells.lookup_insert_other {a b : Nat} (v : α) (h : b ≠ a) :
    ∀ m : List (Nat × α), Cells.lookup (Cells.insert m a v) b = Cells.lookup m b
  | [] => by simp [Cells.insert, Cells.lookup, h]
  | (k, w) :: rest => by
    simp only [Cells.insert]
    split
    · rename_i h1
      subst h1
      simp [Cells.lookup, h]
    · split
      · rename_i h1 h2
        simp only [Cells.lookup, if_neg h]
        by_cases hb : b < a
        · have : b ≠ k := by omega
          have : b < k := by omega
          simp [*]
        · simp [hb]
      · rename_i h1 h2
        simp [Cells.lookup, Cells.lookup_insert_other v h rest]

theorem Cells.risingFrom_insert (a : Nat) (v : α) :
    ∀ {lo : Nat} {m : List (Nat × α)}, Cells.risingFrom lo m = true → lo ≤ a →
      Cells.risingFrom lo (Cells.insert m a v) = true
  | lo, [], _, ha => by simp [Cells.insert, Cells.risingFrom, ha]
  | lo, (k, w) :: rest, hm, ha => by
    simp only [Cells.risingFrom, Bool.and_eq_true, decide_eq_true_eq] at hm
    simp only [Cells.insert]
    split
    · rename_i h1
      subst h1
      simp [Cells.risingFrom, ha, hm.2]
    · split
      · rename_i h1 h2
        simp only [Cells.risingFrom, Bool.and_eq_true, decide_eq_true_eq]
        exact ⟨ha, by omega, hm.2⟩
      · rename_i h1 h2
        simp only [Cells.risingFrom, Bool.and_eq_true, decide_eq_true_eq]
        exact ⟨hm.1, Cells.risingFrom_insert a v hm.2 (by omega)⟩

/-- Listing a value keeps the keys rising. -/
theorem Cells.rising_insert {m : List (Nat × α)} (a : Nat) (v : α) (h : Cells.rising m = true) :
    Cells.rising (Cells.insert m a v) = true :=
  Cells.risingFrom_insert a v h (Nat.zero_le a)

theorem Cells.risingFrom_erase (a : Nat) :
    ∀ {lo : Nat} {m : List (Nat × α)}, Cells.risingFrom lo m = true → Cells.risingFrom lo (Cells.erase m a) = true
  | _, [], _ => rfl
  | lo, (k, w) :: rest, hm => by
    have hm' := hm
    simp only [Cells.risingFrom, Bool.and_eq_true, decide_eq_true_eq] at hm
    simp only [Cells.erase]
    split
    · exact Cells.risingFrom_mono (by omega) hm.2
    · split
      · exact hm'
      · simp only [Cells.risingFrom, Bool.and_eq_true, decide_eq_true_eq]
        exact ⟨hm.1, Cells.risingFrom_erase a hm.2⟩

/-- Reading what was just taken out. -/
theorem Cells.lookup_erase_same (a : Nat) :
    ∀ {lo : Nat} {m : List (Nat × α)}, Cells.risingFrom lo m = true → Cells.lookup (Cells.erase m a) a = none
  | _, [], _ => rfl
  | lo, (k, w) :: rest, hm => by
    simp only [Cells.risingFrom, Bool.and_eq_true, decide_eq_true_eq] at hm
    simp only [Cells.erase]
    split
    · exact Cells.lookup_below hm.2 (by omega)
    · split
      · rename_i h1 h2
        simp [Cells.lookup, h1, h2]
      · rename_i h1 h2
        simp [Cells.lookup, h1, h2, Cells.lookup_erase_same a hm.2]

/-- Taking a key out leaves every other key alone. -/
theorem Cells.lookup_erase_other {a b : Nat} (h : b ≠ a) :
    ∀ {lo : Nat} {m : List (Nat × α)}, Cells.risingFrom lo m = true →
      Cells.lookup (Cells.erase m a) b = Cells.lookup m b
  | _, [], _ => rfl
  | lo, (k, w) :: rest, hm => by
    simp only [Cells.risingFrom, Bool.and_eq_true, decide_eq_true_eq] at hm
    simp only [Cells.erase]
    split
    · rename_i h1
      subst h1
      simp only [Cells.lookup, if_neg h]
      by_cases hb : b < a
      · simp [hb, Cells.lookup_below hm.2 (show b < a + 1 by omega)]
      · simp [hb]
    · split
      · rfl
      · simp [Cells.lookup, Cells.lookup_erase_other h hm.2]

theorem Cells.all_insert {p : Nat × α → Bool} {a : Nat} {v : α} (hv : p (a, v) = true) :
    ∀ {m : List (Nat × α)}, m.all p = true → (Cells.insert m a v).all p = true
  | [], _ => by simp [Cells.insert, hv]
  | (k, w) :: rest, hm => by
    simp only [List.all_cons, Bool.and_eq_true] at hm
    simp only [Cells.insert]
    split
    · simp only [List.all_cons, Bool.and_eq_true]
      exact ⟨hv, hm.2⟩
    · split
      · simp only [List.all_cons, Bool.and_eq_true]
        exact ⟨hv, hm.1, hm.2⟩
      · simp only [List.all_cons, Bool.and_eq_true]
        exact ⟨hm.1, Cells.all_insert hv hm.2⟩

theorem Cells.all_erase {p : Nat × α → Bool} (a : Nat) :
    ∀ {m : List (Nat × α)}, m.all p = true → (Cells.erase m a).all p = true
  | [], _ => rfl
  | (k, w) :: rest, hm => by
    have hm' := hm
    simp only [List.all_cons, Bool.and_eq_true] at hm
    simp only [Cells.erase]
    split
    · exact hm.2
    · split
      · exact hm'
      · simp only [List.all_cons, Bool.and_eq_true]
        exact ⟨hm.1, Cells.all_erase a hm.2⟩

end

/-! ### Memories -/

theorem Memory.wf_rising {size : Nat} {m : Memory} (h : Memory.wf size m = true) : Cells.rising m = true := by
  simp only [Memory.wf, Bool.and_eq_true] at h
  exact h.1

/-- A memory with nothing listed is in canonical form. -/
theorem Memory.wf_nil (size : Nat) : Memory.wf size [] = true := rfl

/-- A write keeps the canonical form. -/
theorem Memory.wf_write {size a : Nat} {m : Memory} (v : Byte) (h : Memory.wf size m = true) (ha : a < size) :
    Memory.wf size (Memory.write m a v) = true := by
  simp only [Memory.wf, Bool.and_eq_true] at h ⊢
  unfold Memory.write
  split
  · exact ⟨Cells.risingFrom_erase a h.1, Cells.all_erase a h.2⟩
  · rename_i hv
    exact ⟨Cells.rising_insert a v h.1, Cells.all_insert (by simp [ha, hv]) h.2⟩

/-- A read after a write to the same address. -/
theorem Memory.read_write_same {m : Memory} (a : Nat) (v : Byte) (h : Cells.rising m = true) :
    (Memory.write m a v).read a = v := by
  unfold Memory.write Memory.read
  split
  · rename_i hv
    rw [Cells.lookup_erase_same a h, hv]
    rfl
  · simp

/-- A read of any other address. -/
theorem Memory.read_write_other {m : Memory} {a b : Nat} (v : Byte) (h : Cells.rising m = true) (hb : b ≠ a) :
    (Memory.write m a v).read b = m.read b := by
  unfold Memory.write Memory.read
  split
  · rw [Cells.lookup_erase_other hb h]
  · rw [Cells.lookup_insert_other v hb]

/-- Nothing listed: every byte reads as the unlisted value. -/
@[simp] theorem Memory.read_nil (a : Nat) : Memory.read [] a = 0 := rfl

theorem Memory.lookup_of_wf {size : Nat} {m : Memory} (h : Memory.wf size m = true) (a : Nat) :
    Cells.lookup m a = if m.read a = 0 then none else some (m.read a) := by
  simp only [Memory.wf, Bool.and_eq_true] at h
  obtain ⟨-, h⟩ := h
  unfold Memory.read
  induction m with
  | nil => rfl
  | cons c rest ih =>
    obtain ⟨k, v⟩ := c
    simp only [List.all_cons, Bool.and_eq_true, decide_eq_true_eq] at h
    simp only [Cells.lookup]
    split
    · have hv : ¬ v = 0#8 := h.1.2
      simp [hv]
    · split
      · rfl
      · exact ih h.2

theorem Cells.ext_of_lookup {α : Type} :
    ∀ {lo lo' : Nat} {m m' : List (Nat × α)}, Cells.risingFrom lo m = true → Cells.risingFrom lo' m' = true →
      (∀ a, Cells.lookup m a = Cells.lookup m' a) → m = m'
  | _, _, [], [], _, _, _ => rfl
  | _, _, [], (k, v) :: rest, _, _, h => by
    have := h k
    simp [Cells.lookup] at this
  | _, _, (k, v) :: rest, [], _, _, h => by
    have := h k
    simp [Cells.lookup] at this
  | _, _, (k, v) :: rest, (k', v') :: rest', hm, hm', h => by
    simp only [Cells.risingFrom, Bool.and_eq_true, decide_eq_true_eq] at hm hm'
    have hk : k = k' := by
      have h1 := h k
      have h2 := h k'
      simp only [Cells.lookup] at h1 h2
      by_contra hne
      have hne' : k' ≠ k := fun e => hne e.symm
      rcases Nat.lt_or_gt_of_ne hne with hlt | hlt
      · simp [hne, hlt] at h1
      · simp [hne', hlt] at h2
    subst hk
    have hv : v = v' := by
      have h1 := h k
      simpa [Cells.lookup] using h1
    subst hv
    congr 1
    refine Cells.ext_of_lookup hm.2 hm'.2 fun a => ?_
    have h1 := h a
    simp only [Cells.lookup] at h1
    by_cases hak : a ≤ k
    · rw [Cells.lookup_below hm.2 (by omega), Cells.lookup_below hm'.2 (by omega)]
    · have e1 : a ≠ k := by omega
      have e2 : ¬ a < k := by omega
      simpa [e1, e2] using h1

/-- Memories in canonical form that read alike are equal data. -/
theorem Memory.ext_of_read {size size' : Nat} {m m' : Memory} (h : Memory.wf size m = true)
    (h' : Memory.wf size' m' = true) (hr : ∀ a, m.read a = m'.read a) : m = m' :=
  Cells.ext_of_lookup (Memory.wf_rising h) (Memory.wf_rising h') fun a => by
    rw [Memory.lookup_of_wf h, Memory.lookup_of_wf h', hr]

/-! ### The frame buffer -/

@[simp] theorem FrameBuffer.lookup_write_same (fb : FrameBuffer) (i : Nat) (c : Rgba) :
    Cells.lookup (fb.write i c) i = some c := Cells.lookup_insert_same i c fb

theorem FrameBuffer.lookup_write_other {fb : FrameBuffer} {i j : Nat} (c : Rgba) (h : j ≠ i) :
    Cells.lookup (fb.write i c) j = Cells.lookup fb j := Cells.lookup_insert_other c h fb

theorem FrameBuffer.rising_write {fb : FrameBuffer} (i : Nat) (c : Rgba) (h : Cells.rising fb = true) :
    Cells.rising (fb.write i c) = true := Cells.rising_insert i c h

end Sys2Proof.Machine
end

