-- ==== Sys2Proof/Laws/Timing.lean ====
section
/-! SUPPORT. What each action of a line end does to each field, and what CLOCK does. -/

namespace Sys2Proof.Machine

open Sys2Proof.Config

section

variable (L : Nat) (s : State)

@[simp] theorem renderLine_regs : (renderLine L s).regs = s.regs := by simp [renderLine]
/-- The frame buffer after the three passes. -/
theorem renderLine_fb : (renderLine L s).fb = (spritePass L (bgPass L s)).outputFb L := by
  rw [renderLine, outputPass]

@[simp] theorem renderLine_vram : (renderLine L s).vram = s.vram := by simp [renderLine]
@[simp] theorem renderLine_cram : (renderLine L s).cram = s.cram := by simp [renderLine]
@[simp] theorem renderLine_latch : (renderLine L s).latch = s.latch := by simp [renderLine]
@[simp] theorem renderLine_addr : (renderLine L s).addr = s.addr := by simp [renderLine]
@[simp] theorem renderLine_code : (renderLine L s).code = s.code := by simp [renderLine]
@[simp] theorem renderLine_readBuf : (renderLine L s).readBuf = s.readBuf := by simp [renderLine]
@[simp] theorem renderLine_linePending : (renderLine L s).linePending = s.linePending := by simp [renderLine]
@[simp] theorem renderLine_framePending : (renderLine L s).framePending = s.framePending := by simp [renderLine]
@[simp] theorem renderLine_line : (renderLine L s).line = s.line := by simp [renderLine]
@[simp] theorem renderLine_cyc : (renderLine L s).cyc = s.cyc := by simp [renderLine]
@[simp] theorem renderLine_fracAcc : (renderLine L s).fracAcc = s.fracAcc := by simp [renderLine]
@[simp] theorem renderLine_lineLen : (renderLine L s).lineLen = s.lineLen := by simp [renderLine]
@[simp] theorem renderLine_hblank : (renderLine L s).hblank = s.hblank := by simp [renderLine]
@[simp] theorem renderLine_lineCounter : (renderLine L s).lineCounter = s.lineCounter := by simp [renderLine]
@[simp] theorem renderLine_vscrollLatched : (renderLine L s).vscrollLatched = s.vscrollLatched := by simp [renderLine]
@[simp] theorem renderLine_hcLatch : (renderLine L s).hcLatch = s.hcLatch := by simp [renderLine]
@[simp] theorem renderLine_gameGear : (renderLine L s).gameGear = s.gameGear := by simp [renderLine]
@[simp] theorem renderLine_pal : (renderLine L s).pal = s.pal := by simp [renderLine]
@[simp] theorem renderLine_initialised : (renderLine L s).initialised = s.initialised := by simp [renderLine]
@[simp] theorem renderLine_params : (renderLine L s).params = s.params := by simp [renderLine]
@[simp] theorem renderLine_input : (renderLine L s).input = s.input := by simp [renderLine]
@[simp] theorem renderLine_out : (renderLine L s).out = s.out := by simp [renderLine]
@[simp] theorem renderLine_reg (i : Fin 11) : (renderLine L s).reg i = s.reg i := by simp only [State.reg, renderLine_regs]
@[simp] theorem renderLine_lineEnable : (renderLine L s).lineEnable = s.lineEnable := by simp only [State.lineEnable, renderLine_reg]
@[simp] theorem renderLine_frameEnable : (renderLine L s).frameEnable = s.frameEnable := by simp only [State.frameEnable, renderLine_reg]
@[simp] theorem renderLine_linesPerFrame : (renderLine L s).linesPerFrame = s.linesPerFrame := by
  simp only [State.linesPerFrame, renderLine_pal]
@[simp] theorem renderLine_info : (renderLine L s).info = (spritePass L (bgPass L s)).info := by
  simp only [renderLine, outputPass_info]
@[simp] theorem renderLine_status : (renderLine L s).status = (spritePass L (bgPass L s)).status := by
  simp only [renderLine, outputPass_status]

@[simp] theorem renderIfActive_regs : (renderIfActive L s).regs = s.regs := by
  unfold renderIfActive; split <;> simp
@[simp] theorem renderIfActive_vram : (renderIfActive L s).vram = s.vram := by
  unfold renderIfActive; split <;> simp
@[simp] theorem renderIfActive_cram : (renderIfActive L s).cram = s.cram := by
  unfold renderIfActive; split <;> simp
@[simp] theorem renderIfActive_latch : (renderIfActive L s).latch = s.latch := by
  unfold renderIfActive; split <;> simp
@[simp] theorem renderIfActive_addr : (renderIfActive L s).addr = s.addr := by
  unfold renderIfActive; split <;> simp
@[simp] theorem renderIfActive_code : (renderIfActive L s).code = s.code := by
  unfold renderIfActive; split <;> simp
@[simp] theorem renderIfActive_readBuf : (renderIfActive L s).readBuf = s.readBuf := by
  unfold renderIfActive; split <;> simp
@[simp] theorem renderIfActive_linePending : (renderIfActive L s).linePending = s.linePending := by
  unfold renderIfActive; split <;> simp
@[simp] theorem renderIfActive_framePending : (renderIfActive L s).framePending = s.framePending := by
  unfold renderIfActive; split <;> simp
@[simp] theorem renderIfActive_line : (renderIfActive L s).line = s.line := by
  unfold renderIfActive; split <;> simp
@[simp] theorem renderIfActive_cyc : (renderIfActive L s).cyc = s.cyc := by
  unfold renderIfActive; split <;> simp
@[simp] theorem renderIfActive_fracAcc : (renderIfActive L s).fracAcc = s.fracAcc := by
  unfold renderIfActive; split <;> simp
@[simp] theorem renderIfActive_lineLen : (renderIfActive L s).lineLen = s.lineLen := by
  unfold renderIfActive; split <;> simp
@[simp] theorem renderIfActive_hblank : (renderIfActive L s).hblank = s.hblank := by
  unfold renderIfActive; split <;> simp
@[simp] theorem renderIfActive_lineCounter : (renderIfActive L s).lineCounter = s.lineCounter := by
  unfold renderIfActive; split <;> simp
@[simp] theorem renderIfActive_vscrollLatched : (renderIfActive L s).vscrollLatched = s.vscrollLatched := by
  unfold renderIfActive; split <;> simp
@[simp] theorem renderIfActive_hcLatch : (renderIfActive L s).hcLatch = s.hcLatch := by
  unfold renderIfActive; split <;> simp
@[simp] theorem renderIfActive_gameGear : (renderIfActive L s).gameGear = s.gameGear := by
  unfold renderIfActive; split <;> simp
@[simp] theorem renderIfActive_pal : (renderIfActive L s).pal = s.pal := by
  unfold renderIfActive; split <;> simp
@[simp] theorem renderIfActive_initialised : (renderIfActive L s).initialised = s.initialised := by
  unfold renderIfActive; split <;> simp
@[simp] theorem renderIfActive_params : (renderIfActive L s).params = s.params := by
  unfold renderIfActive; split <;> simp
@[simp] theorem renderIfActive_input : (renderIfActive L s).input = s.input := by
  unfold renderIfActive; split <;> simp
@[simp] theorem renderIfActive_out : (renderIfActive L s).out = s.out := by
  unfold renderIfActive; split <;> simp
@[simp] theorem renderIfActive_reg (i : Fin 11) : (renderIfActive L s).reg i = s.reg i := by simp only [State.reg, renderIfActive_regs]
@[simp] theorem renderIfActive_lineEnable : (renderIfActive L s).lineEnable = s.lineEnable := by simp only [State.lineEnable, renderIfActive_reg]
@[simp] theorem renderIfActive_frameEnable : (renderIfActive L s).frameEnable = s.frameEnable := by simp only [State.frameEnable, renderIfActive_reg]
@[simp] theorem renderIfActive_linesPerFrame : (renderIfActive L s).linesPerFrame = s.linesPerFrame := by
  simp only [State.linesPerFrame, renderIfActive_pal]

@[simp] theorem lineCounterStep_regs : (lineCounterStep L s).regs = s.regs := by
  unfold lineCounterStep lineUnderflow; split <;> [split <;> simp; rfl]
@[simp] theorem lineCounterStep_vram : (lineCounterStep L s).vram = s.vram := by
  unfold lineCounterStep lineUnderflow; split <;> [split <;> simp; rfl]
@[simp] theorem lineCounterStep_cram : (lineCounterStep L s).cram = s.cram := by
  unfold lineCounterStep lineUnderflow; split <;> [split <;> simp; rfl]
@[simp] theorem lineCounterStep_info : (lineCounterStep L s).info = s.info := by
  unfold lineCounterStep lineUnderflow; split <;> [split <;> simp; rfl]
@[simp] theorem lineCounterStep_latch : (lineCounterStep L s).latch = s.latch := by
  unfold lineCounterStep lineUnderflow; split <;> [split <;> simp; rfl]
@[simp] theorem lineCounterStep_addr : (lineCounterStep L s).addr = s.addr := by
  unfold lineCounterStep lineUnderflow; split <;> [split <;> simp; rfl]
@[simp] theorem lineCounterStep_code : (lineCounterStep L s).code = s.code := by
  unfold lineCounterStep lineUnderflow; split <;> [split <;> simp; rfl]
@[simp] theorem lineCounterStep_readBuf : (lineCounterStep L s).readBuf = s.readBuf := by
  unfold lineCounterStep lineUnderflow; split <;> [split <;> simp; rfl]
@[simp] theorem lineCounterStep_status : (lineCounterStep L s).status = s.status := by
  unfold lineCounterStep lineUnderflow; split <;> [split <;> simp; rfl]
@[simp] theorem lineCounterStep_framePending : (lineCounterStep L s).framePending = s.framePending := by
  unfold lineCounterStep lineUnderflow; split <;> [split <;> simp; rfl]
@[simp] theorem lineCounterStep_line : (lineCounterStep L s).line = s.line := by
  unfold lineCounterStep lineUnderflow; split <;> [split <;> simp; rfl]
@[simp] theorem lineCounterStep_cyc : (lineCounterStep L s).cyc = s.cyc := by
  unfold lineCounterStep lineUnderflow; split <;> [split <;> simp; rfl]
@[simp] theorem lineCounterStep_fracAcc : (lineCounterStep L s).fracAcc = s.fracAcc := by
  unfold lineCounterStep lineUnderflow; split <;> [split <;> simp; rfl]
@[simp] theorem lineCounterStep_lineLen : (lineCounterStep L s).lineLen = s.lineLen := by
  unfold lineCounterStep lineUnderflow; split <;> [split <;> simp; rfl]
@[simp] theorem lineCounterStep_hblank : (lineCounterStep L s).hblank = s.hblank := by
  unfold lineCounterStep lineUnderflow; split <;> [split <;> simp; rfl]
@[simp] theorem lineCounterStep_vscrollLatched : (lineCounterStep L s).vscrollLatched = s.vscrollLatched := by
  unfold lineCounterStep lineUnderflow; split <;> [split <;> simp; rfl]
@[simp] theorem lineCounterStep_hcLatch : (lineCounterStep L s).hcLatch = s.hcLatch := by
  unfold lineCounterStep lineUnderflow; split <;> [split <;> simp; rfl]
@[simp] theorem lineCounterStep_gameGear : (lineCounterStep L s).gameGear = s.gameGear := by
  unfold lineCounterStep lineUnderflow; split <;> [split <;> simp; rfl]
@[simp] theorem lineCounterStep_pal : (lineCounterStep L s).pal = s.pal := by
  unfold lineCounterStep lineUnderflow; split <;> [split <;> simp; rfl]
@[simp] theorem lineCounterStep_initialised : (lineCounterStep L s).initialised = s.initialised := by
  unfold lineCounterStep lineUnderflow; split <;> [split <;> simp; rfl]
@[simp] theorem lineCounterStep_fb : (lineCounterStep L s).fb = s.fb := by
  unfold lineCounterStep lineUnderflow; split <;> [split <;> simp; rfl]
@[simp] theorem lineCounterStep_params : (lineCounterStep L s).params = s.params := by
  unfold lineCounterStep lineUnderflow; split <;> [split <;> simp; rfl]
@[simp] theorem lineCounterStep_input : (lineCounterStep L s).input = s.input := by
  unfold lineCounterStep lineUnderflow; split <;> [split <;> simp; rfl]
@[simp] theorem lineCounterStep_reg (i : Fin 11) : (lineCounterStep L s).reg i = s.reg i := by simp only [State.reg, lineCounterStep_regs]
@[simp] theorem lineCounterStep_lineEnable : (lineCounterStep L s).lineEnable = s.lineEnable := by simp only [State.lineEnable, lineCounterStep_reg]
@[simp] theorem lineCounterStep_frameEnable : (lineCounterStep L s).frameEnable = s.frameEnable := by simp only [State.frameEnable, lineCounterStep_reg]
@[simp] theorem lineCounterStep_linesPerFrame : (lineCounterStep L s).linesPerFrame = s.linesPerFrame := by
  simp only [State.linesPerFrame, lineCounterStep_pal]

/-- The counter after the step (R156, R158). -/
@[simp] theorem lineCounterStep_lineCounter : (lineCounterStep L s).lineCounter =
    if L ≤ s.params.lcLastDecLine then (if s.lineCounter = 0#8 then s.reg 10 else s.lineCounter - 1#8) else s.reg 10 := by
  unfold lineCounterStep lineUnderflow; split <;> [split <;> simp; rfl]

/-- The pending flag is set exactly by an underflow (R157). -/
@[simp] theorem lineCounterStep_linePending : (lineCounterStep L s).linePending =
    (s.linePending || (decide (L ≤ s.params.lcLastDecLine) && decide (s.lineCounter = 0#8))) := by
  unfold lineCounterStep lineUnderflow
  split <;> rename_i h <;> [skip; simp [h]]
  split <;> rename_i h' <;> simp [h, h']

/-- The event of an underflow with the enable set (R157). -/
@[simp] theorem lineCounterStep_out : (lineCounterStep L s).out = { s.out with
    events := s.out.events ++
      if L ≤ s.params.lcLastDecLine ∧ s.lineCounter = 0#8 ∧ s.lineEnable = true then [.requestInt] else [] } := by
  unfold lineCounterStep lineUnderflow
  split <;> rename_i h <;> [skip; simp [h]]
  split <;> rename_i h'
  · simp [h, h', State.lineEnable, State.reg]
  · simp [h']

@[simp] theorem frameInterruptIfDue_regs : (frameInterruptIfDue L s).regs = s.regs := by
  unfold frameInterruptIfDue frameInterrupt; split <;> simp
@[simp] theorem frameInterruptIfDue_vram : (frameInterruptIfDue L s).vram = s.vram := by
  unfold frameInterruptIfDue frameInterrupt; split <;> simp
@[simp] theorem frameInterruptIfDue_cram : (frameInterruptIfDue L s).cram = s.cram := by
  unfold frameInterruptIfDue frameInterrupt; split <;> simp
@[simp] theorem frameInterruptIfDue_info : (frameInterruptIfDue L s).info = s.info := by
  unfold frameInterruptIfDue frameInterrupt; split <;> simp
@[simp] theorem frameInterruptIfDue_latch : (frameInterruptIfDue L s).latch = s.latch := by
  unfold frameInterruptIfDue frameInterrupt; split <;> simp
@[simp] theorem frameInterruptIfDue_addr : (frameInterruptIfDue L s).addr = s.addr := by
  unfold frameInterruptIfDue frameInterrupt; split <;> simp
@[simp] theorem frameInterruptIfDue_code : (frameInterruptIfDue L s).code = s.code := by
  unfold frameInterruptIfDue frameInterrupt; split <;> simp
@[simp] theorem frameInterruptIfDue_readBuf : (frameInterruptIfDue L s).readBuf = s.readBuf := by
  unfold frameInterruptIfDue frameInterrupt; split <;> simp
@[simp] theorem frameInterruptIfDue_linePending : (frameInterruptIfDue L s).linePending = s.linePending := by
  unfold frameInterruptIfDue frameInterrupt; split <;> simp
@[simp] theorem frameInterruptIfDue_line : (frameInterruptIfDue L s).line = s.line := by
  unfold frameInterruptIfDue frameInterrupt; split <;> simp
@[simp] theorem frameInterruptIfDue_cyc : (frameInterruptIfDue L s).cyc = s.cyc := by
  unfold frameInterruptIfDue frameInterrupt; split <;> simp
@[simp] theorem frameInterruptIfDue_fracAcc : (frameInterruptIfDue L s).fracAcc = s.fracAcc := by
  unfold frameInterruptIfDue frameInterrupt; split <;> simp
@[simp] theorem frameInterruptIfDue_lineLen : (frameInterruptIfDue L s).lineLen = s.lineLen := by
  unfold frameInterruptIfDue frameInterrupt; split <;> simp
@[simp] theorem frameInterruptIfDue_hblank : (frameInterruptIfDue L s).hblank = s.hblank := by
  unfold frameInterruptIfDue frameInterrupt; split <;> simp
@[simp] theorem frameInterruptIfDue_lineCounter : (frameInterruptIfDue L s).lineCounter = s.lineCounter := by
  unfold frameInterruptIfDue frameInterrupt; split <;> simp
@[simp] theorem frameInterruptIfDue_vscrollLatched : (frameInterruptIfDue L s).vscrollLatched = s.vscrollLatched := by
  unfold frameInterruptIfDue frameInterrupt; split <;> simp
@[simp] theorem frameInterruptIfDue_hcLatch : (frameInterruptIfDue L s).hcLatch = s.hcLatch := by
  unfold frameInterruptIfDue frameInterrupt; split <;> simp
@[simp] theorem frameInterruptIfDue_gameGear : (frameInterruptIfDue L s).gameGear = s.gameGear := by
  unfold frameInterruptIfDue frameInterrupt; split <;> simp
@[simp] theorem frameInterruptIfDue_pal : (frameInterruptIfDue L s).pal = s.pal := by
  unfold frameInterruptIfDue frameInterrupt; split <;> simp
@[simp] theorem frameInterruptIfDue_initialised : (frameInterruptIfDue L s).initialised = s.initialised := by
  unfold frameInterruptIfDue frameInterrupt; split <;> simp
@[simp] theorem frameInterruptIfDue_fb : (frameInterruptIfDue L s).fb = s.fb := by
  unfold frameInterruptIfDue frameInterrupt; split <;> simp
@[simp] theorem frameInterruptIfDue_params : (frameInterruptIfDue L s).params = s.params := by
  unfold frameInterruptIfDue frameInterrupt; split <;> simp
@[simp] theorem frameInterruptIfDue_input : (frameInterruptIfDue L s).input = s.input := by
  unfold frameInterruptIfDue frameInterrupt; split <;> simp
@[simp] theorem frameInterruptIfDue_reg (i : Fin 11) : (frameInterruptIfDue L s).reg i = s.reg i := by simp only [State.reg, frameInterruptIfDue_regs]
@[simp] theorem frameInterruptIfDue_lineEnable : (frameInterruptIfDue L s).lineEnable = s.lineEnable := by simp only [State.lineEnable, frameInterruptIfDue_reg]
@[simp] theorem frameInterruptIfDue_frameEnable : (frameInterruptIfDue L s).frameEnable = s.frameEnable := by simp only [State.frameEnable, frameInterruptIfDue_reg]
@[simp] theorem frameInterruptIfDue_linesPerFrame : (frameInterruptIfDue L s).linesPerFrame = s.linesPerFrame := by
  simp only [State.linesPerFrame, frameInterruptIfDue_pal]

@[simp] theorem frameInterruptIfDue_framePending : (frameInterruptIfDue L s).framePending =
    (s.framePending || decide (L = activeEnd)) := by
  unfold frameInterruptIfDue frameInterrupt; split <;> rename_i h <;> simp [h]

@[simp] theorem frameInterruptIfDue_status : (frameInterruptIfDue L s).status =
    { s.status with frameIrq := s.status.frameIrq || decide (L = activeEnd) } := by
  unfold frameInterruptIfDue frameInterrupt; split <;> rename_i h <;> simp [h]

@[simp] theorem frameInterruptIfDue_out : (frameInterruptIfDue L s).out = { s.out with
    events := s.out.events ++ if L = activeEnd ∧ s.frameEnable = true then [.requestInt] else [] } := by
  unfold frameInterruptIfDue frameInterrupt; split <;> rename_i h <;> simp [h]

@[simp] theorem nextLineLength_regs : (nextLineLength s).regs = s.regs := by
  unfold nextLineLength; split <;> rfl
@[simp] theorem nextLineLength_vram : (nextLineLength s).vram = s.vram := by
  unfold nextLineLength; split <;> rfl
@[simp] theorem nextLineLength_cram : (nextLineLength s).cram = s.cram := by
  unfold nextLineLength; split <;> rfl
@[simp] theorem nextLineLength_info : (nextLineLength s).info = s.info := by
  unfold nextLineLength; split <;> rfl
@[simp] theorem nextLineLength_latch : (nextLineLength s).latch = s.latch := by
  unfold nextLineLength; split <;> rfl
@[simp] theorem nextLineLength_addr : (nextLineLength s).addr = s.addr := by
  unfold nextLineLength; split <;> rfl
@[simp] theorem nextLineLength_code : (nextLineLength s).code = s.code := by
  unfold nextLineLength; split <;> rfl
@[simp] theorem nextLineLength_readBuf : (nextLineLength s).readBuf = s.readBuf := by
  unfold nextLineLength; split <;> rfl
@[simp] theorem nextLineLength_status : (nextLineLength s).status = s.status := by
  unfold nextLineLength; split <;> rfl
@[simp] theorem nextLineLength_linePending : (nextLineLength s).linePending = s.linePending := by
  unfold nextLineLength; split <;> rfl
@[simp] theorem nextLineLength_framePending : (nextLineLength s).framePending = s.framePending := by
  unfold nextLineLength; split <;> rfl
@[simp] theorem nextLineLength_line : (nextLineLength s).line = s.line := by
  unfold nextLineLength; split <;> rfl
@[simp] theorem nextLineLength_cyc : (nextLineLength s).cyc = s.cyc := by
  unfold nextLineLength; split <;> rfl
@[simp] theorem nextLineLength_hblank : (nextLineLength s).hblank = s.hblank := by
  unfold nextLineLength; split <;> rfl
@[simp] theorem nextLineLength_lineCounter : (nextLineLength s).lineCounter = s.lineCounter := by
  unfold nextLineLength; split <;> rfl
@[simp] theorem nextLineLength_vscrollLatched : (nextLineLength s).vscrollLatched = s.vscrollLatched := by
  unfold nextLineLength; split <;> rfl
@[simp] theorem nextLineLength_hcLatch : (nextLineLength s).hcLatch = s.hcLatch := by
  unfold nextLineLength; split <;> rfl
@[simp] theorem nextLineLength_gameGear : (nextLineLength s).gameGear = s.gameGear := by
  unfold nextLineLength; split <;> rfl
@[simp] theorem nextLineLength_pal : (nextLineLength s).pal = s.pal := by
  unfold nextLineLength; split <;> rfl
@[simp] theorem nextLineLength_initialised : (nextLineLength s).initialised = s.initialised := by
  unfold nextLineLength; split <;> rfl
@[simp] theorem nextLineLength_fb : (nextLineLength s).fb = s.fb := by
  unfold nextLineLength; split <;> rfl
@[simp] theorem nextLineLength_params : (nextLineLength s).params = s.params := by
  unfold nextLineLength; split <;> rfl
@[simp] theorem nextLineLength_input : (nextLineLength s).input = s.input := by
  unfold nextLineLength; split <;> rfl
@[simp] theorem nextLineLength_out : (nextLineLength s).out = s.out := by
  unfold nextLineLength; split <;> rfl
@[simp] theorem nextLineLength_reg (i : Fin 11) : (nextLineLength s).reg i = s.reg i := by simp only [State.reg, nextLineLength_regs]
@[simp] theorem nextLineLength_lineEnable : (nextLineLength s).lineEnable = s.lineEnable := by simp only [State.lineEnable, nextLineLength_reg]
@[simp] theorem nextLineLength_frameEnable : (nextLineLength s).frameEnable = s.frameEnable := by simp only [State.frameEnable, nextLineLength_reg]
@[simp] theorem nextLineLength_linesPerFrame : (nextLineLength s).linesPerFrame = s.linesPerFrame := by
  simp only [State.linesPerFrame, nextLineLength_pal]

/-- R153. -/
@[simp] theorem nextLineLength_fracAcc : (nextLineLength s).fracAcc =
    if s.params.fracDen ≤ s.fracAcc + s.params.fracNum then s.fracAcc + s.params.fracNum - s.params.fracDen
    else s.fracAcc + s.params.fracNum := by
  unfold nextLineLength; split <;> rfl

/-- R153. -/
@[simp] theorem nextLineLength_lineLen : (nextLineLength s).lineLen =
    if s.params.fracDen ≤ s.fracAcc + s.params.fracNum then s.params.cpl + 1 else s.params.cpl := by
  unfold nextLineLength; split <;> rfl

@[simp] theorem advanceLine_regs : (advanceLine L s).regs = s.regs := by
  unfold advanceLine; split <;> simp
@[simp] theorem advanceLine_vram : (advanceLine L s).vram = s.vram := by
  unfold advanceLine; split <;> simp
@[simp] theorem advanceLine_cram : (advanceLine L s).cram = s.cram := by
  unfold advanceLine; split <;> simp
@[simp] theorem advanceLine_info : (advanceLine L s).info = s.info := by
  unfold advanceLine; split <;> simp
@[simp] theorem advanceLine_latch : (advanceLine L s).latch = s.latch := by
  unfold advanceLine; split <;> simp
@[simp] theorem advanceLine_addr : (advanceLine L s).addr = s.addr := by
  unfold advanceLine; split <;> simp
@[simp] theorem advanceLine_code : (advanceLine L s).code = s.code := by
  unfold advanceLine; split <;> simp
@[simp] theorem advanceLine_readBuf : (advanceLine L s).readBuf = s.readBuf := by
  unfold advanceLine; split <;> simp
@[simp] theorem advanceLine_status : (advanceLine L s).status = s.status := by
  unfold advanceLine; split <;> simp
@[simp] theorem advanceLine_linePending : (advanceLine L s).linePending = s.linePending := by
  unfold advanceLine; split <;> simp
@[simp] theorem advanceLine_framePending : (advanceLine L s).framePending = s.framePending := by
  unfold advanceLine; split <;> simp
@[simp] theorem advanceLine_fracAcc : (advanceLine L s).fracAcc = s.fracAcc := by
  unfold advanceLine; split <;> simp
@[simp] theorem advanceLine_lineLen : (advanceLine L s).lineLen = s.lineLen := by
  unfold advanceLine; split <;> simp
@[simp] theorem advanceLine_hblank : (advanceLine L s).hblank = s.hblank := by
  unfold advanceLine; split <;> simp
@[simp] theorem advanceLine_lineCounter : (advanceLine L s).lineCounter = s.lineCounter := by
  unfold advanceLine; split <;> simp
@[simp] theorem advanceLine_hcLatch : (advanceLine L s).hcLatch = s.hcLatch := by
  unfold advanceLine; split <;> simp
@[simp] theorem advanceLine_gameGear : (advanceLine L s).gameGear = s.gameGear := by
  unfold advanceLine; split <;> simp
@[simp] theorem advanceLine_pal : (advanceLine L s).pal = s.pal := by
  unfold advanceLine; split <;> simp
@[simp] theorem advanceLine_initialised : (advanceLine L s).initialised = s.initialised := by
  unfold advanceLine; split <;> simp
@[simp] theorem advanceLine_fb : (advanceLine L s).fb = s.fb := by
  unfold advanceLine; split <;> simp
@[simp] theorem advanceLine_params : (advanceLine L s).params = s.params := by
  unfold advanceLine; split <;> simp
@[simp] theorem advanceLine_input : (advanceLine L s).input = s.input := by
  unfold advanceLine; split <;> simp
@[simp] theorem advanceLine_reg (i : Fin 11) : (advanceLine L s).reg i = s.reg i := by simp only [State.reg, advanceLine_regs]
@[simp] theorem advanceLine_lineEnable : (advanceLine L s).lineEnable = s.lineEnable := by simp only [State.lineEnable, advanceLine_reg]
@[simp] theorem advanceLine_frameEnable : (advanceLine L s).frameEnable = s.frameEnable := by simp only [State.frameEnable, advanceLine_reg]
@[simp] theorem advanceLine_linesPerFrame : (advanceLine L s).linesPerFrame = s.linesPerFrame := by
  simp only [State.linesPerFrame, advanceLine_pal]

/-- R152, R164. -/
@[simp] theorem advanceLine_line : (advanceLine L s).line =
    if L = s.linesPerFrame - 1 then 0 else BitVec.ofNat 9 (L + 1) := by
  unfold advanceLine; split <;> simp

@[simp] theorem advanceLine_cyc : (advanceLine L s).cyc = 0 := by
  unfold advanceLine; split <;> simp

/-- R163. -/
@[simp] theorem advanceLine_vscrollLatched : (advanceLine L s).vscrollLatched =
    if L = s.linesPerFrame - 1 then s.reg 9 else s.vscrollLatched := by
  unfold advanceLine; split <;> simp

/-- R165. -/
@[simp] theorem advanceLine_out : (advanceLine L s).out = { s.out with
    events := s.out.events ++ if L = s.linesPerFrame - 1 then [.frameReady] else [] } := by
  unfold advanceLine; split <;> simp

end

/-! ### The whole line end -/

section

variable (s : State)

@[simp] theorem lineEnd_regs : (lineEnd s).regs = s.regs := by simp [lineEnd]
@[simp] theorem lineEnd_vram : (lineEnd s).vram = s.vram := by simp [lineEnd]
@[simp] theorem lineEnd_cram : (lineEnd s).cram = s.cram := by simp [lineEnd]
@[simp] theorem lineEnd_latch : (lineEnd s).latch = s.latch := by simp [lineEnd]
@[simp] theorem lineEnd_addr : (lineEnd s).addr = s.addr := by simp [lineEnd]
@[simp] theorem lineEnd_code : (lineEnd s).code = s.code := by simp [lineEnd]
@[simp] theorem lineEnd_readBuf : (lineEnd s).readBuf = s.readBuf := by simp [lineEnd]
@[simp] theorem lineEnd_hblank : (lineEnd s).hblank = s.hblank := by simp [lineEnd]
@[simp] theorem lineEnd_hcLatch : (lineEnd s).hcLatch = s.hcLatch := by simp [lineEnd]
@[simp] theorem lineEnd_gameGear : (lineEnd s).gameGear = s.gameGear := by simp [lineEnd]
@[simp] theorem lineEnd_pal : (lineEnd s).pal = s.pal := by simp [lineEnd]
@[simp] theorem lineEnd_initialised : (lineEnd s).initialised = s.initialised := by simp [lineEnd]
@[simp] theorem lineEnd_params : (lineEnd s).params = s.params := by simp [lineEnd]
@[simp] theorem lineEnd_input : (lineEnd s).input = s.input := by simp [lineEnd]

@[simp] theorem lineEnd_reg (i : Fin 11) : (lineEnd s).reg i = s.reg i := by simp only [State.reg, lineEnd_regs]

@[simp] theorem lineEnd_info : (lineEnd s).info =
    if s.line.toNat < activeEnd then (spritePass s.line.toNat (bgPass s.line.toNat s)).info else s.info := by
  simp only [lineEnd, advanceLine_info, nextLineLength_info, frameInterruptIfDue_info, lineCounterStep_info,
    renderIfActive]
  split <;> simp only [renderLine_info]

@[simp] theorem lineEnd_fb : (lineEnd s).fb =
    if s.line.toNat < activeEnd then (renderLine s.line.toNat s).fb else s.fb := by
  simp only [lineEnd, advanceLine_fb, nextLineLength_fb, frameInterruptIfDue_fb, lineCounterStep_fb, renderIfActive]
  split <;> rfl

/-- The status flags: the sprite pass adds to two of them on an active line, line 192 sets the third. -/
@[simp] theorem lineEnd_status : (lineEnd s).status =
    { (if s.line.toNat < activeEnd then (spritePass s.line.toNat (bgPass s.line.toNat s)).status else s.status) with
      frameIrq := s.status.frameIrq || decide (s.line.toNat = activeEnd) } := by
  simp only [lineEnd, advanceLine_status, nextLineLength_status, frameInterruptIfDue_status, lineCounterStep_status,
    renderIfActive]
  split <;> simp [Status.withSprites]

@[simp] theorem lineEnd_framePending : (lineEnd s).framePending =
    (s.framePending || decide (s.line.toNat = activeEnd)) := by simp [lineEnd]

@[simp] theorem lineEnd_linePending : (lineEnd s).linePending =
    (s.linePending || (decide (s.line.toNat ≤ s.params.lcLastDecLine) && decide (s.lineCounter = 0#8))) := by
  simp [lineEnd]

@[simp] theorem lineEnd_lineCounter : (lineEnd s).lineCounter =
    if s.line.toNat ≤ s.params.lcLastDecLine then (if s.lineCounter = 0#8 then s.reg 10 else s.lineCounter - 1#8)
    else s.reg 10 := by
  simp [lineEnd]

@[simp] theorem lineEnd_fracAcc : (lineEnd s).fracAcc =
    if s.params.fracDen ≤ s.fracAcc + s.params.fracNum then s.fracAcc + s.params.fracNum - s.params.fracDen
    else s.fracAcc + s.params.fracNum := by simp [lineEnd]

@[simp] theorem lineEnd_lineLen : (lineEnd s).lineLen =
    if s.params.fracDen ≤ s.fracAcc + s.params.fracNum then s.params.cpl + 1 else s.params.cpl := by simp [lineEnd]

@[simp] theorem lineEnd_line : (lineEnd s).line =
    if s.line.toNat = s.linesPerFrame - 1 then 0 else BitVec.ofNat 9 (s.line.toNat + 1) := by
  simp [lineEnd]

@[simp] theorem lineEnd_cyc : (lineEnd s).cyc = 0 := by simp [lineEnd]

@[simp] theorem lineEnd_vscrollLatched : (lineEnd s).vscrollLatched =
    if s.line.toNat = s.linesPerFrame - 1 then s.reg 9 else s.vscrollLatched := by
  simp [lineEnd]

/-- The events of a line end in order: line interrupt, frame interrupt, FrameReady (R162). -/
@[simp] theorem lineEnd_out : (lineEnd s).out = { s.out with
    events := s.out.events ++
      (if s.line.toNat ≤ s.params.lcLastDecLine ∧ s.lineCounter = 0#8 ∧ s.lineEnable = true then [.requestInt] else []) ++
      (if s.line.toNat = activeEnd ∧ s.frameEnable = true then [.requestInt] else []) ++
      (if s.line.toNat = s.linesPerFrame - 1 then [.frameReady] else []) } := by
  simp [lineEnd]

end

/-- All that a line end can change (R151). -/
theorem lineEnd_frame (s : State) : lineEnd s = { s with
    info := (lineEnd s).info, status := (lineEnd s).status, linePending := (lineEnd s).linePending
    framePending := (lineEnd s).framePending, line := (lineEnd s).line, cyc := (lineEnd s).cyc
    fracAcc := (lineEnd s).fracAcc, lineLen := (lineEnd s).lineLen, lineCounter := (lineEnd s).lineCounter
    vscrollLatched := (lineEnd s).vscrollLatched, fb := (lineEnd s).fb, out := (lineEnd s).out } := by
  have := lineEnd_regs s; have := lineEnd_vram s; have := lineEnd_cram s; have := lineEnd_latch s
  have := lineEnd_addr s; have := lineEnd_code s; have := lineEnd_readBuf s; have := lineEnd_hblank s
  have := lineEnd_hcLatch s; have := lineEnd_gameGear s; have := lineEnd_pal s; have := lineEnd_initialised s
  have := lineEnd_params s; have := lineEnd_input s
  generalize lineEnd s = t at *
  cases t; cases s; simp_all

/-! ### CLOCK -/

/-- A CLOCK step inside a line (R150). -/
theorem clockEffect_inside (s : State) (h : s.atLineEnd = false) :
    clockEffect s = { s with
      cyc := s.cyc + 1
      hblank := decide (s.lineLen ≤ (s.cyc + 1).toNat + s.params.hblankCycles) } := by
  simp [clockEffect, h, updateHblank, State.inHblank]

/-- A CLOCK step that ends a line (R150, R151). -/
theorem clockEffect_lineEnd (s : State) (h : s.atLineEnd = true) :
    clockEffect s = updateHblank (lineEnd { s with cyc := s.cyc + 1 }) := by
  simp [clockEffect, h]

theorem atLineEnd_iff (s : State) : s.atLineEnd = true ↔ s.cyc.toNat + 1 = s.lineLen := by
  simp [State.atLineEnd]

end Sys2Proof.Machine
end

