-- ==== Sys2Proof/Laws/Exec.lean ====
section
/-! SUPPORT. What each operation does, once: the effect behind every meaning, the inversion of `exec` and `step`, and one
lemma per shared operation. -/

namespace Sys2Proof.Machine

open Sys2Proof.Config

/-! ### The refusal before RESET -/

theorem whenInitialised_of (s : State) (f : State → State) (h : s.initialised = true) :
    whenInitialised s f = .next (f s.beginStep) := by
  simp [whenInitialised, h]

theorem whenInitialised_before (s : State) (f : State → State) (h : s.initialised = false) :
    whenInitialised s f = .refused .beforeReset := by
  simp [whenInitialised, h]

/-- All that `whenInitialised` can answer. -/
theorem whenInitialised_next {s t : State} {f : State → State} (h : whenInitialised s f = .next t) :
    s.initialised = true ∧ t = f s.beginStep := by
  unfold whenInitialised at h
  split at h
  · rename_i hi
    cases h
    exact ⟨hi, rfl⟩
  · cases h

/-! ### Shared operations -/

/-- Asserting adds at most one event and does nothing else (R256). -/
theorem assertIf_eq (s : State) (b : Bool) :
    s.assertIf b = { s with out := { s.out with events := s.out.events ++ if b then [.requestInt] else [] } } := by
  cases b <;> simp [State.assertIf, State.emit]

/-- An enable transition fires (R126). -/
def enableFires (s : State) (idx : Fin 11) (old new : Byte) : Bool :=
  (idx == 0 && !old.getLsbD 4 && new.getLsbD 4 && s.linePending) ||
    (idx == 1 && !old.getLsbD 5 && new.getLsbD 5 && s.framePending)

/-- EnableTransition adds at most one event and does nothing else (R126). -/
theorem enableTransition_eq (s : State) (idx : Fin 11) (old new : Byte) :
    s.enableTransition idx old new = { s with out := { s.out with
      events := s.out.events ++ if enableFires s idx old new then [.requestInt] else [] } } := by
  by_cases h0 : idx = 0
  · subst h0
    simp [State.enableTransition, enableFires, assertIf_eq]
  · simp [State.enableTransition, enableFires, assertIf_eq, h0]

/-- WRITE_REG on a register that exists (R125). -/
theorem writeRegister_existing (s : State) (idx : BitVec 4) (v : Byte) (h : idx.toNat < 11) :
    s.writeRegister idx v = { s with
      regs := s.regs.set idx.toNat v
      out := { s.out with
        events := s.out.events ++
          if enableFires s ⟨idx.toNat, h⟩ (s.reg ⟨idx.toNat, h⟩) v then [.requestInt] else [] } } := by
  simp only [State.writeRegister, numRegs, h, dif_pos, enableTransition_eq]
  rfl

/-- WRITE_REG on an index 11..15 (R125). -/
theorem writeRegister_missing (s : State) (idx : BitVec 4) (v : Byte) (h : ¬ idx.toNat < 11) :
    s.writeRegister idx v = s := by
  simp [State.writeRegister, numRegs, h]

/-- Whatever the index, WRITE_REG writes at most the register file and the outputs. -/
theorem writeRegister_frame (s : State) (idx : BitVec 4) (v : Byte) :
    ∃ regs out, s.writeRegister idx v = { s with regs := regs, out := out } := by
  by_cases h : idx.toNat < 11
  · exact ⟨_, _, writeRegister_existing s idx v h⟩
  · exact ⟨s.regs, s.out, writeRegister_missing s idx v h⟩

/-- The per-code action writes at most the register file, the outputs, the address and the read buffer (R123). -/
theorem commandAction_frame (s : State) :
    ∃ regs out addr readBuf,
      s.commandAction = { s with regs := regs, out := out, addr := addr, readBuf := readBuf } := by
  unfold State.commandAction
  split
  · exact ⟨s.regs, s.out, _, _, rfl⟩
  · exact ⟨s.regs, s.out, s.addr, s.readBuf, rfl⟩
  · obtain ⟨r, o, e⟩ := writeRegister_frame s (s.addr.extractLsb' 8 4) (s.addr.extractLsb' 0 8)
    exact ⟨r, o, s.addr, s.readBuf, e⟩
  · exact ⟨s.regs, s.out, s.addr, s.readBuf, rfl⟩

/-- WriteData's store under code 3 (R128). -/
theorem dataStore_cram (s : State) (b : Byte) (h : s.code = .writeCram) :
    s.dataStore b = s.cramWrite s.addr.toNat b := by
  simp [State.dataStore, h]

/-- WriteData's store under codes 0, 1 and 2 (R128). -/
theorem dataStore_vram (s : State) (b : Byte) (h : s.code ≠ .writeCram) :
    s.dataStore b = s.vramWrite s.addr.toNat b := by
  unfold State.dataStore
  split <;> simp_all

/-- Whatever the code, WriteData's store writes one of the two memories. -/
theorem dataStore_frame (s : State) (b : Byte) :
    ∃ vram cram, s.dataStore b = { s with vram := vram, cram := cram } := by
  by_cases h : s.code = .writeCram
  · exact ⟨s.vram, _, dataStore_cram s b h⟩
  · exact ⟨_, s.cram, dataStore_vram s b h⟩

theorem vramByte_of_vram {s t : State} (h : t.vram = s.vram) (a : Nat) : t.vramByte a = s.vramByte a := by
  simp [State.vramByte, h]

theorem cramByte_of_cram {s t : State} (h : t.cram = s.cram) (hg : t.gameGear = s.gameGear) (a : Nat) :
    t.cramByte a = s.cramByte a := by
  simp [State.cramByte, State.cramSize, h, hg]

/-! ### exec -/

/-- The effect of an operation other than RESET, on the state with its outputs cleared. -/
def effect : Instr → State → State
  | .reset g p, s => s.afterReset g p
  | .latchH, s => { s with hcLatch := s.hCounter }
  | .clock, s => clockEffect s
  | .writeData b, s => ({ s.dataStore b with latch := .empty, readBuf := b } : State).bumpAddr
  | .writeControl b, s =>
    match s.latch with
    | .empty => { s with latch := .halfFull b }
    | .halfFull lo => (s.loadCommand (assembleCode b) (assembleAddr b lo)).commandAction
  | .reservedW2 _, s => s
  | .reservedW3 _, s => s
  | .getDataPort, s => { (s.returning s.readBuf).fillReadBuf with latch := .empty }
  | .getStatusFlags, s => { (s.returning s.status.toByte).acknowledge with latch := .empty }
  | .getVCounter, s => s.returning s.vCounter
  | .getHCounter, s => s.returning s.hcLatch
  | .cmdReadVram a, s => (s.loadCommand .readVram a).fillReadBuf
  | .cmdWriteVram a, s => s.loadCommand .writeVram a
  | .cmdWriteReg u i d, s => (s.loadCommand .writeReg (u ++ i ++ d)).writeRegister i d
  | .cmdWriteCram a, s => s.loadCommand .writeCram a

/-- After a RESET every operation answers its effect (R250, R251). -/
theorem exec_of_initialised (i : Instr) (s : State) (h : s.initialised = true) :
    exec i s = .next (effect i s.beginStep) := by
  have key := whenInitialised_of s (effect i) h
  cases i
  case reset => rfl
  all_goals exact key

/-- RESET answers in every state (R281). -/
theorem exec_reset (g p : Bool) (s : State) : exec (.reset g p) s = .next (s.afterReset g p) := rfl

/-- All that `exec` can answer as a next state. -/
theorem exec_next {i : Instr} {s t : State} (h : exec i s = .next t) :
    (∃ g p, i = .reset g p ∧ t = s.afterReset g p) ∨ (s.initialised = true ∧ t = effect i s.beginStep) := by
  have key := @whenInitialised_next s t (effect i)
  cases i
  case reset g p =>
    left
    cases h
    exact ⟨g, p, rfl, rfl⟩
  all_goals exact .inr (key h)

/-- The same, where the operation is not RESET. -/
theorem exec_next_of_ne_reset {i : Instr} {s t : State} (hi : ∀ g p, i ≠ .reset g p) (h : exec i s = .next t) :
    s.initialised = true ∧ t = effect i s.beginStep := by
  rcases exec_next h with ⟨g, p, e, -⟩ | h
  · exact absurd e (hi g p)
  · exact h

/-! ### CLOCK at a line end, on the state it starts from -/

/-- The state a CLOCK step hands to its line end: `cyc` counted, no output yet. -/
def State.counted (s : State) : State := { s.beginStep with cyc := s.cyc + 1 }

section

variable (s : State)

@[simp] theorem counted_regs : s.counted.regs = s.regs := by rfl
@[simp] theorem counted_vram : s.counted.vram = s.vram := by rfl
@[simp] theorem counted_cram : s.counted.cram = s.cram := by rfl
@[simp] theorem counted_info : s.counted.info = s.info := by rfl
@[simp] theorem counted_latch : s.counted.latch = s.latch := by rfl
@[simp] theorem counted_addr : s.counted.addr = s.addr := by rfl
@[simp] theorem counted_code : s.counted.code = s.code := by rfl
@[simp] theorem counted_readBuf : s.counted.readBuf = s.readBuf := by rfl
@[simp] theorem counted_status : s.counted.status = s.status := by rfl
@[simp] theorem counted_linePending : s.counted.linePending = s.linePending := by rfl
@[simp] theorem counted_framePending : s.counted.framePending = s.framePending := by rfl
@[simp] theorem counted_line : s.counted.line = s.line := by rfl
@[simp] theorem counted_fracAcc : s.counted.fracAcc = s.fracAcc := by rfl
@[simp] theorem counted_lineLen : s.counted.lineLen = s.lineLen := by rfl
@[simp] theorem counted_hblank : s.counted.hblank = s.hblank := by rfl
@[simp] theorem counted_lineCounter : s.counted.lineCounter = s.lineCounter := by rfl
@[simp] theorem counted_vscrollLatched : s.counted.vscrollLatched = s.vscrollLatched := by rfl
@[simp] theorem counted_hcLatch : s.counted.hcLatch = s.hcLatch := by rfl
@[simp] theorem counted_gameGear : s.counted.gameGear = s.gameGear := by rfl
@[simp] theorem counted_pal : s.counted.pal = s.pal := by rfl
@[simp] theorem counted_initialised : s.counted.initialised = s.initialised := by rfl
@[simp] theorem counted_fb : s.counted.fb = s.fb := by rfl
@[simp] theorem counted_params : s.counted.params = s.params := by rfl
@[simp] theorem counted_input : s.counted.input = s.input := by rfl
@[simp] theorem counted_cyc : s.counted.cyc = s.cyc + 1 := by rfl
@[simp] theorem counted_out : s.counted.out = {} := by rfl
@[simp] theorem counted_reg (i : Fin 11) : s.counted.reg i = s.reg i := by rfl
@[simp] theorem counted_lineEnable : s.counted.lineEnable = s.lineEnable := by rfl
@[simp] theorem counted_frameEnable : s.counted.frameEnable = s.frameEnable := by rfl
@[simp] theorem counted_linesPerFrame : s.counted.linesPerFrame = s.linesPerFrame := by rfl

end

/-- CLOCK at a line end (R150, R151). -/
theorem exec_clock_lineEnd (s : State) (h : s.initialised = true) (hc : s.cyc.toNat + 1 = s.lineLen) :
    exec .clock s = .next (updateHblank (lineEnd s.counted)) := by
  rw [exec_of_initialised _ s h]
  exact congrArg _ (clockEffect_lineEnd s.beginStep ((atLineEnd_iff s.beginStep).2 hc))

/-- The two cases of CLOCK's effect (R150). -/
theorem effect_clock (s : State) :
    (s.atLineEnd = true ∧ effect .clock s.beginStep = updateHblank (lineEnd s.counted)) ∨
    (s.atLineEnd = false ∧ effect .clock s.beginStep = { s.counted with
       hblank := decide (s.lineLen ≤ (s.cyc + 1).toNat + s.params.hblankCycles) }) := by
  cases hc : s.atLineEnd
  · exact .inr ⟨rfl, clockEffect_inside s.beginStep hc⟩
  · exact .inl ⟨rfl, clockEffect_lineEnd s.beginStep hc⟩

/-! ### step -/

/-- A step with no label presented. -/
theorem step_idle (s : State) (h : s.input = []) : step s = .next (idle s) := by
  simp [step, fetch, h]

/-- A step with a label presented runs the operation it requests. -/
theorem step_label (s : State) (p : PinSample) (rest : List PinSample) (h : s.input = p :: rest) :
    step s = exec (requested s.latch p) { s with input := rest } := by
  simp [step, fetch, h]

/-- All that `step` can answer as a next state. -/
theorem step_next {s t : State} (h : step s = .next t) :
    (s.input = [] ∧ t = idle s) ∨
      ∃ p rest, s.input = p :: rest ∧ exec (requested s.latch p) { s with input := rest } = .next t := by
  cases hi : s.input with
  | nil =>
    rw [step_idle s hi] at h
    cases h
    exact .inl ⟨rfl, rfl⟩
  | cons p rest =>
    rw [step_label s p rest hi] at h
    exact .inr ⟨p, rest, rfl, h⟩

end Sys2Proof.Machine
end

