-- ==== Sys2Proof/Laws/PerInstr.lean ====
section
/-! SUPPORT. Statements made of every operation, one lemma per constructor: the word `encode` gives lies in the opcode-table row
of the operation's own mnemonic (R90, R93). -/

namespace Sys2Proof.Laws.MatchesRow

/-- The encoded operation fits the row of its mnemonic. -/
def Statement (i : Instr) : Prop :=
  match encode i with
  | .ev p => ∃ r ∈ evRows, r.mnemonic = mnemonic i ∧ r.fits p.ev = true
  | .cw w => ∃ r ∈ cwRows, r.mnemonic = mnemonic i ∧ r.fits w = true

/-- The mask 0xC000 leaves the two code bits of a command word. -/
theorem code_mask (c : BitVec 2) (a : VAddr) : (c ++ a) &&& 0xC000#16 = c ++ 0#14 := by
  apply BitVec.eq_of_getLsbD_eq
  intro j hj
  rw [BitVec.getLsbD_and, BitVec.getLsbD_append, BitVec.getLsbD_append]
  interval_cases j <;> simp

theorem fits_code {m : String} {pattern : BitVec 16} (c : BitVec 2) (a : VAddr) (h : c ++ 0#14 = pattern) :
    (⟨m, pattern, 0xC000⟩ : Row 16).fits (c ++ a) = true := by
  simp only [Row.fits, beq_iff_eq]
  exact (code_mask c a).trans h

theorem reset (g p : Bool) : Statement (.reset g p) :=
  ⟨⟨"RESET", 0x20, 0x20⟩, by simp [evRows], rfl, (by decide : (⟨"RESET", 0x20, 0x20⟩ : Row 6).fits 0x20 = true)⟩

theorem latchH : Statement .latchH :=
  ⟨⟨"LATCHH", 0x10, 0x30⟩, by simp [evRows], rfl, (by decide : (⟨"LATCHH", 0x10, 0x30⟩ : Row 6).fits 0x10 = true)⟩

theorem clock : Statement .clock :=
  ⟨⟨"CLOCK", 0x00, 0x38⟩, by simp [evRows], rfl, (by decide : (⟨"CLOCK", 0x00, 0x38⟩ : Row 6).fits 0x00 = true)⟩

theorem writeData (d : Byte) : Statement (.writeData d) :=
  ⟨⟨"WriteData", 0x08, 0x3F⟩, by simp [evRows], rfl, (by decide : (⟨"WriteData", 0x08, 0x3F⟩ : Row 6).fits 0x08 = true)⟩

theorem writeControl (d : Byte) : Statement (.writeControl d) :=
  ⟨⟨"WriteControl", 0x09, 0x3F⟩, by simp [evRows], rfl, (by decide : (⟨"WriteControl", 0x09, 0x3F⟩ : Row 6).fits 0x09 = true)⟩

theorem reservedW2 (d : Byte) : Statement (.reservedW2 d) :=
  ⟨⟨"RESERVED.W2", 0x0A, 0x3F⟩, by simp [evRows], rfl, (by decide : (⟨"RESERVED.W2", 0x0A, 0x3F⟩ : Row 6).fits 0x0A = true)⟩

theorem reservedW3 (d : Byte) : Statement (.reservedW3 d) :=
  ⟨⟨"RESERVED.W3", 0x0B, 0x3F⟩, by simp [evRows], rfl, (by decide : (⟨"RESERVED.W3", 0x0B, 0x3F⟩ : Row 6).fits 0x0B = true)⟩

theorem getDataPort : Statement .getDataPort :=
  ⟨⟨"GetDataPort", 0x0C, 0x3F⟩, by simp [evRows], rfl, (by decide : (⟨"GetDataPort", 0x0C, 0x3F⟩ : Row 6).fits 0x0C = true)⟩

theorem getStatusFlags : Statement .getStatusFlags :=
  ⟨⟨"GetStatusFlags", 0x0D, 0x3F⟩, by simp [evRows], rfl, (by decide : (⟨"GetStatusFlags", 0x0D, 0x3F⟩ : Row 6).fits 0x0D = true)⟩

theorem getVCounter : Statement .getVCounter :=
  ⟨⟨"GetVCounter", 0x0E, 0x3F⟩, by simp [evRows], rfl, (by decide : (⟨"GetVCounter", 0x0E, 0x3F⟩ : Row 6).fits 0x0E = true)⟩

theorem getHCounter : Statement .getHCounter :=
  ⟨⟨"GetHCounter", 0x0F, 0x3F⟩, by simp [evRows], rfl, (by decide : (⟨"GetHCounter", 0x0F, 0x3F⟩ : Row 6).fits 0x0F = true)⟩

theorem cmdReadVram (a : VAddr) : Statement (.cmdReadVram a) :=
  ⟨⟨"CMD.READ_VRAM", 0x0000, 0xC000⟩, by simp [cwRows], rfl, fits_code _ _ rfl⟩

theorem cmdWriteVram (a : VAddr) : Statement (.cmdWriteVram a) :=
  ⟨⟨"CMD.WRITE_VRAM", 0x4000, 0xC000⟩, by simp [cwRows], rfl, fits_code _ _ rfl⟩

theorem cmdWriteReg (u : BitVec 2) (i : BitVec 4) (d : Byte) : Statement (.cmdWriteReg u i d) :=
  ⟨⟨"CMD.WRITE_REG", 0x8000, 0xC000⟩, by simp [cwRows], rfl, fits_code _ _ rfl⟩

theorem cmdWriteCram (a : VAddr) : Statement (.cmdWriteCram a) :=
  ⟨⟨"CMD.WRITE_CRAM", 0xC000, 0xC000⟩, by simp [cwRows], rfl, fits_code _ _ rfl⟩

end Sys2Proof.Laws.MatchesRow
end

