-- ==== Sys2Proof/Laws/Picture.lean ====
section
/-! SUPPORT. What each loop of the three passes does at one slot or one frame-buffer word. -/

namespace Sys2Proof.Machine

open Sys2Proof.Config

/-- Reading a slot after one was put. -/
theorem putSlot_get (info : Vector Slot 256) (Y X : Fin 256) (sl : Slot) : (putSlot info Y sl)[X.val] = if X = Y then sl else info[X.val] := by
  unfold putSlot
  rw [Vector.getElem_set]
  by_cases h : Y = X
  · subst h; simp
  · have : ¬ Y.val = X.val := fun e => h (Fin.ext e)
    simp [this, Ne.symm h]

/-- A background slot holds no sprite (R190). -/
@[simp] theorem bgSlotAt_spr (s : State) (L X : Nat) : (s.bgSlotAt L X).spr = false := by
  unfold State.bgSlotAt; split <;> rfl

/-- What one column of the background loop leaves at slot X: the eight slots of column C take its pixels (R190, R197). -/
theorem bgColumn_get (s : State) (R f hs C : Nat) (info : Vector Slot 256) (X : Fin 256) (hC : C < 32) :
   (s.bgColumn R f hs info C)[X.val] = 
     if (X.val + 256 - hs % 8) % 256 / 8 = C then
       (bgSlot (s.nameEntry R (effectiveColumn C hs)) (s.patternRow (s.nameEntry R (effectiveColumn C hs)).pat f (s.nameEntry R (effectiveColumn C hs)).vf) ((X.val + 256 - hs % 8) % 256 % 8))
     else info[X.val] := by
  unfold State.bgColumn
  dsimp only
  generalize s.nameEntry R (effectiveColumn C hs) = e
  generalize s.patternRow e.pat f e.vf = planes
  have key : ∀ n ≤ 8, ((List.range n).foldl (fun info px => putSlot info (bgScreenX C hs px) (bgSlot e planes px)) info)[X.val] =
     if (X.val + 256 - hs % 8) % 256 / 8 = C ∧ (X.val + 256 - hs % 8) % 256 % 8 < n then bgSlot e planes ((X.val + 256 - hs % 8) % 256 % 8) else info[X.val] := by
    intro n
    induction n with
    | zero => intro _; simp
    | succ n ih =>
      intro hn
      rw [List.range_succ, List.foldl_append, List.foldl_cons, List.foldl_nil, putSlot_get, ih (by omega)]
      have hX := X.isLt
      have e1 : (X = bgScreenX C hs n) ↔ ((X.val + 256 - hs % 8) % 256 / 8 = C ∧ (X.val + 256 - hs % 8) % 256 % 8 = n) := by
        rw [Fin.ext_iff]
        show X.val = (C * 8 + hs % 8 + n) % 256 ↔ _
        omega
      by_cases h : X = bgScreenX C hs n
      · rw [if_pos h]
        have := e1.1 h
        rw [if_pos ⟨this.1, by omega⟩, this.2]
      · rw [if_neg h]
        have h' := mt e1.2 h
        congr 1
        rw [eq_iff_iff]
        constructor
        · rintro ⟨a, b⟩; exact ⟨a, by omega⟩
        · rintro ⟨a, b⟩
          refine ⟨a, ?_⟩
          have : (X.val + 256 - hs % 8) % 256 % 8 ≠ n := fun q => h' ⟨a, q⟩
          omega
  rw [key 8 (le_refl _)]
  congr 1
  rw [eq_iff_iff]
  constructor
  · exact fun h => h.1
  · exact fun h => ⟨h, Nat.mod_lt _ (by decide)⟩

/-- The scan loop (R210): the covering sprites before the first terminator are drawn in order, up to eight in all, and one more
sets the overflow (R212, R214). -/
theorem scanSprites_eq (s : State) (L : Nat) (l : List Nat) : ∀ (c : Nat) (acc : SpriteAcc), c ≤ 8 →
   s.scanSprites L l c acc = 
    let cov := (l.takeWhile fun i => !s.spriteEnds i).filter fun i => s.spriteCovers L i
    { (cov.take (8 - c)).foldl (s.drawSprite L) acc with overflow := ((cov.take (8 - c)).foldl (s.drawSprite L) acc).overflow || decide (8 - c < cov.length) } := by
  induction l with
  | nil => intro c acc _; simp [State.scanSprites]
  | cons i l ih =>
    intro c acc hc
    unfold State.scanSprites
    by_cases he : s.spriteEnds i = true
    · simp [he]
    · simp only [he, Bool.false_eq_true, if_false]
      by_cases hv : s.spriteCovers L i = true
      · simp only [hv, if_true]
        by_cases h8 : c = 8
        · simp [h8, he, hv, maxSpritesPerLine]
        · have : 8 - c = (8 - (c + 1)) + 1 := by omega
          simp only [h8, maxSpritesPerLine, if_false]
          rw [ih (c+1) _ (by omega)]
          simp [he, hv, this]
      · rw [if_neg hv]
        rw [ih c _ hc]
        simp [he, hv]

/-- Drawing a sprite leaves the overflow alone. -/
theorem drawSprite_overflow (s : State) (L i : Nat) (acc : SpriteAcc) : (s.drawSprite L acc i).overflow = acc.overflow := by
  unfold State.drawSprite
  generalize List.range 8 = l
  induction l generalizing acc with
  | nil => rfl
  | cons p l ih =>
    rw [List.foldl_cons, ih]
    unfold State.spritePixel
    dsimp only
    split
    · rfl
    · split <;> rfl

/-- Drawing sprites leaves the overflow alone. -/
theorem drawSprites_overflow (s : State) (L : Nat) (l : List Nat) (acc : SpriteAcc) : (l.foldl (s.drawSprite L) acc).overflow = acc.overflow := by
  induction l generalizing acc with
  | nil => rfl
  | cons p l ih => rw [List.foldl_cons, ih, drawSprite_overflow]

/-- What the whole scan of a line gathers: the contributors are drawn in order. -/
theorem spriteResult_eq (s : State) (L : Nat) : s.spriteResult L = 
   { (s.contributors L).foldl (s.drawSprite L) { info := s.info, overflow := false, collision := false } with overflow := decide (8 < (s.coveringSprites L).length) } := by
  unfold State.spriteResult
  rw [scanSprites_eq _ _ _ _ _ (by omega)]
  simp only [drawSprites_overflow, Bool.false_or]
  rfl

/-- The first n pixels of a sprite row at slot X: the slot is taken if it is free and the pixel that falls on it is not
transparent (R217, R218). -/
theorem spritePixels_get (s : State) (x : Byte) (planes : Planes) (acc : SpriteAcc) (n : Nat) (hn : n ≤ 8) (X : Fin 256) :
   let p : Int := (X.val : Int) - x.toNat + s.spriteShift
   let r := (List.range n).foldl (s.spritePixel x planes) acc
   let hit := 0 ≤ p ∧ p < n ∧ pixelIndex planes p.toNat false ≠ 0
   (r.info[X.val] = if acc.info[X.val].spr = true then acc.info[X.val] else if hit then { acc.info[X.val] with spr := true, sprIdx := pixelIndex planes p.toNat false } else acc.info[X.val]) := by
  induction n with
  | zero => 
    dsimp only
    split
    · rfl
    · rw [if_neg (by omega)]; rfl
  | succ n ih =>
    have ih := ih (by omega)
    dsimp only at ih ⊢
    rw [List.range_succ, List.foldl_append, List.foldl_cons, List.foldl_nil]
    generalize (List.range n).foldl (s.spritePixel x planes) acc = r at *
    have hX := X.isLt
    by_cases hp : (X.val : Int) - x.toNat + s.spriteShift = n
    · have hs : s.spriteScreenX x n = some X := by
        unfold State.spriteScreenX
        dsimp only
        rw [if_pos (by omega)]
        congr 1
        apply Fin.ext
        show _ % 256 = _
        omega
      rw [hp] at ih ⊢
      have ih' : r.info[X.val] = acc.info[X.val] := by
        rw [ih]; split
        · rfl
        · rw [if_neg (by omega)]
      unfold State.spritePixel
      dsimp only
      rw [hs]
      simp only [Int.toNat_natCast]
      by_cases hz : pixelIndex planes n false = 0
      · simp [hz, ih']
      · simp only [hz, if_false, SpriteAcc.plot, ih']
        by_cases hsp : acc.info[X.val].spr = true
        · simp [hsp, ih']
        · simp only [hsp, Bool.false_eq_true, if_false]
          rw [putSlot_get, if_pos rfl, if_pos (by refine ⟨by omega, by omega, hz⟩)]
    · have hs : s.spriteScreenX x n ≠ some X := by
        unfold State.spriteScreenX
        dsimp only
        split
        · intro e
          have := Fin.ext_iff.1 (Option.some.inj e)
          have : ((x.toNat : Int) - s.spriteShift + n).toNat % 256 = X.val := this
          omega
        · simp
      have same : (s.spritePixel x planes r n).info[X.val] = r.info[X.val] := by
        unfold State.spritePixel
        dsimp only
        split
        · rfl
        · split
          · rfl
          · rename_i Y hY
            have hne : X ≠ Y := fun e => hs (by rw [hY, e])
            unfold SpriteAcc.plot
            dsimp only
            split
            · rfl
            · rw [putSlot_get, if_neg hne]
      rw [same, ih]
      congr 2
      rw [eq_iff_iff]
      constructor
      · rintro ⟨a, b, c⟩; exact ⟨a, by omega, c⟩
      · rintro ⟨a, b, c⟩; exact ⟨a, by omega, c⟩

/-- One sprite at slot X (R218). -/
theorem drawSprite_get (s : State) (L i : Nat) (acc : SpriteAcc) (X : Fin 256) :
   (s.drawSprite L acc i).info[X.val] = if acc.info[X.val].spr = true then acc.info[X.val] else if s.spriteIndexAt L i X.val ≠ 0 then { acc.info[X.val] with spr := true, sprIdx := s.spriteIndexAt L i X.val } else acc.info[X.val] := by
  unfold State.drawSprite
  have := spritePixels_get s (s.spriteX i) (s.spritePlanes L i) acc 8 (le_refl _) X
  dsimp only at this
  rw [this]
  unfold State.spriteIndexAt
  dsimp only
  by_cases h : 0 ≤ (X.val : Int) - (s.spriteX i).toNat + s.spriteShift ∧ (X.val : Int) - (s.spriteX i).toNat + s.spriteShift < 8
  · simp only [if_pos h]
    congr 2
    rw [eq_iff_iff]
    exact ⟨fun q => q.2.2, fun q => ⟨h.1, h.2, q⟩⟩
  · simp only [if_neg h]
    congr 1
    rw [if_neg (by rintro ⟨a, b, -⟩; exact h ⟨a, b⟩)]
    simp

/-- Sprites drawn in order at slot X: the first with a pixel there takes a free slot (R218). -/
theorem drawSprites_get (s : State) (L : Nat) (l : List Nat) (X : Fin 256) : ∀ acc : SpriteAcc,
   (l.foldl (s.drawSprite L) acc).info[X.val] = if acc.info[X.val].spr = true then acc.info[X.val] else 
     match l.find? (fun i => s.spriteIndexAt L i X.val != 0) with
     | none => acc.info[X.val]
     | some i => { acc.info[X.val] with spr := true, sprIdx := s.spriteIndexAt L i X.val } := by
  induction l with
  | nil => intro acc; simp
  | cons i l ih =>
    intro acc
    rw [List.foldl_cons, ih, drawSprite_get]
    by_cases h : acc.info[X.val].spr = true
    · simp [h]
    · by_cases h2 : s.spriteIndexAt L i X.val = 0#4
      · simp [h, h2]
      · simp [h, h2]

/-- The first n pixels of a sprite row: no background index changes, and the collision is set by a pixel over an opaque
background (R219). -/
theorem spritePixels_collision (s : State) (x : Byte) (planes : Planes) (acc : SpriteAcc) (n : Nat) (hn : n ≤ 8) :
   ((∀ X : Fin 256, ((List.range n).foldl (s.spritePixel x planes) acc).info[X.val].bgIdx = acc.info[X.val].bgIdx) ∧
   (((List.range n).foldl (s.spritePixel x planes) acc).collision = true ↔ acc.collision = true ∨
      ∃ X : Fin 256, (0 ≤ ((X.val : Int) - x.toNat + s.spriteShift) ∧ ((X.val : Int) - x.toNat + s.spriteShift) < n ∧ pixelIndex planes ((X.val : Int) - x.toNat + s.spriteShift).toNat false ≠ 0) ∧ acc.info[X.val].bgIdx ≠ 0)) := by
  induction n with
  | zero =>
    refine ⟨fun _ => rfl, ?_⟩
    constructor
    · exact .inl
    · rintro (h | ⟨X, ⟨a, b, -⟩, -⟩)
      · exact h
      · omega
  | succ n ih =>
    obtain ⟨ih1, ih2⟩ := ih (by omega)
    rw [List.range_succ, List.foldl_append, List.foldl_cons, List.foldl_nil]
    generalize (List.range n).foldl (s.spritePixel x planes) acc = r at *
    unfold State.spritePixel
    dsimp only
    by_cases hz : pixelIndex planes n false = 0
    · rw [if_pos hz]
      refine ⟨ih1, ih2.trans ?_⟩
      apply or_congr Iff.rfl
      apply exists_congr; intro X
      apply and_congr_left; intro _
      constructor
      · rintro ⟨a, b, c⟩; exact ⟨a, by omega, c⟩
      · rintro ⟨a, b, c⟩
        refine ⟨a, ?_, c⟩
        by_contra q
        have : ((X.val : Int) - x.toNat + s.spriteShift) = n := by omega
        rw [this, Int.toNat_natCast] at c; exact c hz
    · rw [if_neg hz]
      unfold State.spriteScreenX
      dsimp only
      by_cases hr : 0 ≤ (x.toNat : Int) - s.spriteShift + n ∧ (x.toNat : Int) - s.spriteShift + n ≤ 255
      · rw [if_pos hr]
        dsimp only
        generalize hY : Fin.ofNat 256 ((x.toNat : Int) - s.spriteShift + n).toNat = Y
        have hY' : (Y.val : Int) = (x.toNat : Int) - s.spriteShift + n := by
          rw [← hY]; show ((((x.toNat : Int) - s.spriteShift + n).toNat % 256 : Nat) : Int) = _; omega
        unfold SpriteAcc.plot
        dsimp only
        constructor
        · intro X
          split
          · exact ih1 X
          · rw [putSlot_get]
            split
            · rename_i e; subst e; exact ih1 X
            · exact ih1 X
        · rw [Bool.or_eq_true, ih2, bne_iff_ne, ih1 Y]
          constructor
          · rintro ((h | ⟨X, ⟨a, b, c⟩, d⟩) | h)
            · exact .inl h
            · exact .inr ⟨X, ⟨a, by omega, c⟩, d⟩
            · refine .inr ⟨Y, ⟨by omega, by omega, ?_⟩, h⟩
              have : ((Y.val : Int) - x.toNat + s.spriteShift) = n := by omega
              rw [this, Int.toNat_natCast]; exact hz
          · rintro (h | ⟨X, ⟨a, b, c⟩, d⟩)
            · exact .inl (.inl h)
            · by_cases q : ((X.val : Int) - x.toNat + s.spriteShift) < n
              · exact .inl (.inr ⟨X, ⟨a, q, c⟩, d⟩)
              · have : X = Y := Fin.ext (by omega)
                subst this; exact .inr d
      · rw [if_neg hr]
        refine ⟨ih1, ih2.trans ?_⟩
        apply or_congr Iff.rfl
        apply exists_congr; intro X
        have := X.isLt
        apply and_congr_left; intro _
        constructor
        · rintro ⟨a, b, c⟩; exact ⟨a, by omega, c⟩
        · rintro ⟨a, b, c⟩; exact ⟨a, by omega, c⟩

/-- One sprite: no background index changes, and when it sets the collision (R219). -/
theorem drawSprite_collision (s : State) (L i : Nat) (acc : SpriteAcc) :
   ((∀ X : Fin 256, (s.drawSprite L acc i).info[X.val].bgIdx = acc.info[X.val].bgIdx) ∧
   ((s.drawSprite L acc i).collision = true ↔ acc.collision = true ∨
      ∃ X : Fin 256, s.spriteIndexAt L i X.val ≠ 0 ∧ acc.info[X.val].bgIdx ≠ 0)) := by
  obtain ⟨h1, h2⟩ := spritePixels_collision s (s.spriteX i) (s.spritePlanes L i) acc 8 (le_refl _)
  refine ⟨h1, h2.trans ?_⟩
  apply or_congr Iff.rfl
  apply exists_congr; intro X
  apply and_congr_left; intro _
  unfold State.spriteIndexAt
  dsimp only
  by_cases h : 0 ≤ (X.val : Int) - (s.spriteX i).toNat + s.spriteShift ∧ (X.val : Int) - (s.spriteX i).toNat + s.spriteShift < 8
  · rw [if_pos h]
    exact ⟨fun q => q.2.2, fun q => ⟨h.1, h.2, q⟩⟩
  · rw [if_neg h]
    simp only [ne_eq, not_true, iff_false]
    rintro ⟨a, b, -⟩; exact h ⟨a, b⟩

/-- Sprites drawn in order: when they set the collision (R219). -/
theorem drawSprites_collision (s : State) (L : Nat) (l : List Nat) : ∀ acc : SpriteAcc,
   ((l.foldl (s.drawSprite L) acc).collision = true ↔ acc.collision = true ∨
      ∃ i ∈ l, ∃ X : Fin 256, s.spriteIndexAt L i X.val ≠ 0 ∧ acc.info[X.val].bgIdx ≠ 0) := by
  induction l with
  | nil => intro acc; simp
  | cons i l ih =>
    intro acc
    obtain ⟨h1, h2⟩ := drawSprite_collision s L i acc
    rw [List.foldl_cons, ih, h2]
    simp only [h1, List.mem_cons, exists_eq_or_imp, or_assoc]

/-- A loop that writes distinct words: each holds its colour, every other word keeps its content. -/
theorem emit_fold (fb : FrameBuffer) (idx : Nat → Option Nat) (c : Nat → Rgba) (n : Nat) (inj : ∀ a < n, ∀ b < n, ∀ j, idx a = some j → idx b = some j → a = b) :
   let r := (List.range n).foldl (fun fb X => match idx X with | some i => fb.write i (c X) | none => fb) fb
   (∀ X < n, ∀ j, idx X = some j → Cells.lookup r j = some (c X)) ∧ (∀ j, (∀ X < n, idx X ≠ some j) → Cells.lookup r j = Cells.lookup fb j) := by
  induction n with
  | zero => exact ⟨by intro X h; omega, fun j _ => rfl⟩
  | succ n ih =>
    obtain ⟨h1, h2⟩ := ih (fun a ha b hb => inj a (by omega) b (by omega))
    dsimp only at *
    rw [List.range_succ, List.foldl_append, List.foldl_cons, List.foldl_nil]
    generalize (List.range n).foldl _ fb = r at *
    cases hi : idx n with
    | none =>
      dsimp only
      refine ⟨?_, ?_⟩
      · intro X hX j hj
        have : X ≠ n := by rintro rfl; rw [hi] at hj; cases hj
        exact h1 X (by omega) j hj
      · intro j hj; exact h2 j (fun X hX => hj X (by omega))
    | some k =>
      dsimp only
      refine ⟨?_, ?_⟩
      · intro X hX j hj
        by_cases hx : X = n
        · subst hx; rw [hi] at hj; cases hj; exact FrameBuffer.lookup_write_same _ _ _
        · have : j ≠ k := by rintro rfl; exact hx (inj X hX n (by omega) j hj hi)
          rw [FrameBuffer.lookup_write_other _ this]
          exact h1 X (by omega) j hj
      · intro j hj
        have : j ≠ k := by rintro rfl; exact hj n (by omega) hi
        rw [FrameBuffer.lookup_write_other _ this]
        exact h2 j (fun X hX => hj X (by omega))

end Sys2Proof.Machine
end

