-- ==== Sys2Proof/Laws/Scroll.lean ====
section
/-! SUPPORT. Which parts of a line end do not read `reg[9]`: all but the frame end's latch (R30, R163). -/

namespace Sys2Proof.Machine

open Sys2Proof.Config

section

variable (s : State) (v : Byte)

/-- Writing `reg[9]` leaves every other register as it was. -/
theorem setReg9_reg {j : Fin 11} (h : j ≠ 9) : (s.setReg 9 v).reg j = s.reg j := setReg_reg_other s v h

@[simp] theorem setReg9_hFreeze : (s.setReg 9 v).hFreeze = s.hFreeze := by
  simp only [State.hFreeze, setReg9_reg s v (j := 0) (by decide)]
@[simp] theorem setReg9_leftMask : (s.setReg 9 v).leftMask = s.leftMask := by
  simp only [State.leftMask, setReg9_reg s v (j := 0) (by decide)]
@[simp] theorem setReg9_lineEnable : (s.setReg 9 v).lineEnable = s.lineEnable := by
  simp only [State.lineEnable, setReg9_reg s v (j := 0) (by decide)]
@[simp] theorem setReg9_shiftSprites : (s.setReg 9 v).shiftSprites = s.shiftSprites := by
  simp only [State.shiftSprites, setReg9_reg s v (j := 0) (by decide)]
@[simp] theorem setReg9_frameEnable : (s.setReg 9 v).frameEnable = s.frameEnable := by
  simp only [State.frameEnable, setReg9_reg s v (j := 1) (by decide)]
@[simp] theorem setReg9_tallMap : (s.setReg 9 v).tallMap = s.tallMap := by
  simp only [State.tallMap, setReg9_reg s v (j := 1) (by decide)]
@[simp] theorem setReg9_tallSprites : (s.setReg 9 v).tallSprites = s.tallSprites := by
  simp only [State.tallSprites, setReg9_reg s v (j := 1) (by decide)]
@[simp] theorem setReg9_nameBase : (s.setReg 9 v).nameBase = s.nameBase := by
  simp only [State.nameBase, setReg9_reg s v (j := 2) (by decide)]
@[simp] theorem setReg9_satBase : (s.setReg 9 v).satBase = s.satBase := by
  simp only [State.satBase, setReg9_reg s v (j := 5) (by decide)]
@[simp] theorem setReg9_spritePatternBase : (s.setReg 9 v).spritePatternBase = s.spritePatternBase := by
  simp only [State.spritePatternBase, setReg9_reg s v (j := 6) (by decide)]
@[simp] theorem setReg9_backdropIndex : (s.setReg 9 v).backdropIndex = s.backdropIndex := by
  simp only [State.backdropIndex, setReg9_reg s v (j := 7) (by decide)]
@[simp] theorem setReg9_linesPerFrame : (s.setReg 9 v).linesPerFrame = s.linesPerFrame := by rfl
theorem setReg9_vramByte : (s.setReg 9 v).vramByte = s.vramByte := by rfl
theorem setReg9_vramHalf : (s.setReg 9 v).vramHalf = s.vramHalf := by rfl
theorem setReg9_planesAt : (s.setReg 9 v).planesAt = s.planesAt := by rfl
theorem setReg9_colour : (s.setReg 9 v).colour = s.colour := by rfl
theorem setReg9_fbIndex : (s.setReg 9 v).fbIndex = s.fbIndex := by rfl

/-- The background pass does not read `reg[9]` (R30). -/
theorem setReg9_bgPass (L : Nat) : bgPass L (s.setReg 9 v) = (bgPass L s).setReg 9 v := by
  have hrow : (s.setReg 9 v).bgRow L = s.bgRow L := by
    simp only [State.bgRow, State.bgY, State.bgRows, setReg9_tallMap, setReg_params, setReg_vscrollLatched]
  have hscroll : (s.setReg 9 v).bgHScroll L = s.bgHScroll L := by
    simp only [State.bgHScroll, setReg9_hFreeze, setReg9_reg s v (j := 8) (by decide)]
  have hname : (s.setReg 9 v).nameEntry = s.nameEntry := by
    funext R Cx
    unfold State.nameEntry
    rw [setReg9_nameBase, setReg9_vramHalf]
  have hpattern : (s.setReg 9 v).patternRow = s.patternRow := by
    funext pat f vf
    unfold State.patternRow
    rw [setReg9_planesAt]
  have hcol : (s.setReg 9 v).bgColumn = s.bgColumn := by
    funext R f hs info C
    unfold State.bgColumn
    rw [hname, hpattern]
  have hinfo : (s.setReg 9 v).bgInfo L = s.bgInfo L := by
    simp only [State.bgInfo, hrow, hscroll, hcol, setReg_info, setReg9_leftMask]
  simp only [bgPass, hinfo]
  rfl

/-- The sprite pass does not read `reg[9]`. -/
theorem setReg9_spritePass (L : Nat) : spritePass L (s.setReg 9 v) = (spritePass L s).setReg 9 v := by
  have hY : (s.setReg 9 v).spriteY = s.spriteY := by
    funext i
    unfold State.spriteY
    rw [setReg9_satBase, setReg9_vramByte]
  have hends : (s.setReg 9 v).spriteEnds = s.spriteEnds := by
    funext i
    unfold State.spriteEnds
    rw [setReg9_tallMap, hY]
  have hcovers : (s.setReg 9 v).spriteCovers = s.spriteCovers := by
    funext L i
    unfold State.spriteCovers State.spriteHeight
    rw [hY, setReg9_tallSprites]
  have hpixel : (s.setReg 9 v).spritePixel = s.spritePixel := by
    funext X planes acc px
    unfold State.spritePixel State.spriteScreenX State.spriteShift
    rw [setReg9_shiftSprites]
  have hplanes : (s.setReg 9 v).spritePlanes = s.spritePlanes := by
    funext L i
    unfold State.spritePlanes State.spritePatternRow State.spriteN
    rw [hY, setReg9_satBase, setReg9_vramByte, setReg9_planesAt, setReg9_tallSprites, setReg9_spritePatternBase]
  have hdraw : (s.setReg 9 v).drawSprite = s.drawSprite := by
    funext L acc i
    unfold State.drawSprite State.spriteX
    rw [hpixel, hplanes, setReg9_satBase, setReg9_vramByte]
  have hscan : ∀ l c acc, (s.setReg 9 v).scanSprites L l c acc = s.scanSprites L l c acc := by
    intro l
    induction l with
    | nil => intro c acc; rfl
    | cons i l ih => intro c acc; simp only [State.scanSprites, hends, hcovers, hdraw, ih]
  have hres : (s.setReg 9 v).spriteResult L = s.spriteResult L := hscan _ _ _
  simp only [spritePass, hres]
  rfl

/-- The output pass does not read `reg[9]`. -/
theorem setReg9_outputPass (L : Nat) : outputPass L (s.setReg 9 v) = (outputPass L s).setReg 9 v := by
  have hentry : (s.setReg 9 v).selectEntry = s.selectEntry := by
    funext slot
    unfold State.selectEntry State.backdrop
    rw [setReg9_backdropIndex]
  have hpixel : (s.setReg 9 v).pixelColour = s.pixelColour := by
    funext X
    unfold State.pixelColour
    rw [setReg9_colour, hentry, setReg_info]
  have hfb : (s.setReg 9 v).outputFb L = s.outputFb L := by
    unfold State.outputFb State.emitPixel
    rw [hpixel, setReg9_fbIndex, setReg_fb]
  unfold outputPass
  rw [hfb]
  generalize s.outputFb L = fb
  rfl

/-- The three passes do not read `reg[9]`. -/
theorem setReg9_renderLine (L : Nat) : renderLine L (s.setReg 9 v) = (renderLine L s).setReg 9 v := by
  simp only [renderLine, setReg9_bgPass, setReg9_spritePass, setReg9_outputPass]

/-- A line end that is not the frame end does not read `reg[9]` (R163). -/
theorem setReg9_lineEnd (h : s.line.toNat ≠ s.linesPerFrame - 1) :
    lineEnd (s.setReg 9 v) = (lineEnd s).setReg 9 v := by
  have hrender : renderIfActive s.line.toNat (s.setReg 9 v) = (renderIfActive s.line.toNat s).setReg 9 v := by
    unfold renderIfActive
    split
    · exact setReg9_renderLine s v _
    · rfl
  have hunder : ∀ u : State, lineUnderflow (u.setReg 9 v) = (lineUnderflow u).setReg 9 v := by
    intro u
    have e : ({ u.setReg 9 v with lineCounter := (u.setReg 9 v).reg 10 } : State) =
        ({ u with lineCounter := u.reg 10 } : State).setReg 9 v := by
      rw [setReg9_reg u v (j := 10) (by decide)]; rfl
    unfold lineUnderflow
    rw [e]
    generalize ({ u with lineCounter := u.reg 10 } : State) = w
    have e2 : ({ w.setReg 9 v with linePending := true } : State) = ({ w with linePending := true } : State).setReg 9 v := rfl
    unfold State.raiseLine State.assertIf
    rw [setReg9_lineEnable, e2]
    split <;> rfl
  have hcounter : ∀ L (u : State), lineCounterStep L (u.setReg 9 v) = (lineCounterStep L u).setReg 9 v := by
    intro L u
    unfold lineCounterStep
    rw [hunder, setReg_lineCounter, setReg_params, setReg9_reg u v (j := 10) (by decide)]
    split
    · split <;> rfl
    · rfl
  have hframe : ∀ L (u : State), frameInterruptIfDue L (u.setReg 9 v) = (frameInterruptIfDue L u).setReg 9 v := by
    intro L u
    unfold frameInterruptIfDue
    split
    · unfold frameInterrupt State.raiseFrame State.assertIf
      rw [setReg9_frameEnable]
      split <;> rfl
    · rfl
  have hlength : ∀ u : State, nextLineLength (u.setReg 9 v) = (nextLineLength u).setReg 9 v := by
    intro u
    unfold nextLineLength
    rw [setReg_params, setReg_fracAcc]
    split <;> rfl
  have hadvance : ∀ u : State, u.linesPerFrame = s.linesPerFrame →
      advanceLine s.line.toNat (u.setReg 9 v) = (advanceLine s.line.toNat u).setReg 9 v := by
    intro u hu
    unfold advanceLine
    rw [setReg9_linesPerFrame, hu, if_neg h, if_neg h]
    rfl
  unfold lineEnd
  rw [setReg_line]
  dsimp only
  rw [hrender, hcounter, hframe, hlength, hadvance _ (by simp)]

/-- A CLOCK step that is not the frame end does not read `reg[9]` (R163). -/
theorem setReg9_clockEffect (h : ¬ (s.atLineEnd = true ∧ s.line.toNat = s.linesPerFrame - 1)) :
    clockEffect (s.setReg 9 v) = (clockEffect s).setReg 9 v := by
  cases hc : s.atLineEnd with
  | true =>
    have hl : s.line.toNat ≠ s.linesPerFrame - 1 := fun e => h ⟨hc, e⟩
    rw [clockEffect_lineEnd s hc, clockEffect_lineEnd (s.setReg 9 v) hc]
    have := setReg9_lineEnd { s with cyc := s.cyc + 1 } v hl
    exact congrArg updateHblank this
  | false =>
    rw [clockEffect_inside s hc, clockEffect_inside (s.setReg 9 v) hc]
    rfl

end

end Sys2Proof.Machine
end

