-- ==== Sys2Proof/Laws/Trace.lean ====
section
/-! SUPPORT. Runs of operations put together (R107). -/

namespace Sys2Proof.Machine

/-- A first operation, then the rest. -/
theorem runInstrs_cons (i : Instr) (rest : List Instr) (s t u : State) (outs : List StepOutput) (h : exec i s = .next t)
   (h2 : runInstrs rest t = .next (u, outs)) : runInstrs (i :: rest) s = .next (u, t.out :: outs) := by
  simp [runInstrs, h, h2]

/-- Two runs one after the other. -/
theorem runInstrs_append (l1 l2 : List Instr) (s t u : State) (o1 o2 : List StepOutput) (h : runInstrs l1 s = .next (t, o1))
   (h2 : runInstrs l2 t = .next (u, o2)) : runInstrs (l1 ++ l2) s = .next (u, o1 ++ o2) := by
  induction l1 generalizing s o1 with
  | nil => simp only [runInstrs] at h; cases h; exact h2
  | cons i l ih =>
    simp only [runInstrs] at h
    cases he : exec i s with
    | next v =>
      simp only [he] at h
      cases hr : runInstrs l v with
      | next w =>
        obtain ⟨w, o⟩ := w
        simp only [hr] at h
        cases h
        have := ih v o hr
        simp only [List.cons_append, runInstrs, he, this]
      | fault f => cases f
      | refused r => simp [hr] at h
    | fault f => cases f
    | refused r => simp [he] at h

end Sys2Proof.Machine
end

