-- ==== Sys2Proof/Tests/Slice0.lean ====
section
/-! SUPPORT. The model's own tests: decodings written out from the spec's encodings, the refusals of the checks, single steps with the
results spec/95_test_vectors.md and the rules' examples give, and a witness for the hypotheses of every statement. -/

namespace Sys2Proof.Tests.Slice0

open Sys2Proof Sys2Proof.Machine Sys2Proof.Config

/-! ### Helpers -/

/-- The next state of an outcome, if there is one. -/
def nextOf (o : Host.Outcome State Fault Refusal) : Option State :=
  match o with
  | .next t => some t
  | .fault _ => none
  | .refused _ => none

/-- One operation run, and one thing read off its next state. -/
def after {α : Type} (i : Instr) (s : State) (f : State → α) : Option α := (nextOf (exec i s)).map f

/-- The state after RESET, moved to a beam position. -/
def beamAt (line cyc : Nat) : State := { State.reset with line := BitVec.ofNat 9 line, cyc := BitVec.ofNat 9 cyc }

/-! ### Decoding: a word of every row, written out from R90 and R93 -/

theorem test_decode_reset : decodeTableWord 8 0b00100000 = some (.reset false false) := by decide
theorem test_decode_reset_straps : decodeTableWord 8 0b110000000000100000 = some (.reset true true) := by decide
theorem test_decode_reset_ignores_low_bits : decodeTableWord 8 0b00111111 = some (.reset false false) := by decide
theorem test_decode_latchH : decodeTableWord 8 0b00010000 = some .latchH := by decide
theorem test_decode_latchH_ignores_low_bits : decodeTableWord 8 0b00011111 = some .latchH := by decide
theorem test_decode_clock : decodeTableWord 8 0b00000000 = some .clock := by decide
theorem test_decode_clock_ignores_low_bits : decodeTableWord 8 0b00000111 = some .clock := by decide
theorem test_decode_writeData : decodeTableWord 8 0b1010101100001000 = some (.writeData 0xAB) := by decide
theorem test_decode_writeControl : decodeTableWord 8 0b0011010000001001 = some (.writeControl 0x34) := by decide
theorem test_decode_reservedW2 : decodeTableWord 8 0b00001010 = some (.reservedW2 0) := by decide
theorem test_decode_reservedW3 : decodeTableWord 8 0b00001011 = some (.reservedW3 0) := by decide
theorem test_decode_getDataPort : decodeTableWord 8 0b00001100 = some .getDataPort := by decide
theorem test_decode_getStatusFlags : decodeTableWord 8 0b00001101 = some .getStatusFlags := by decide
theorem test_decode_getVCounter : decodeTableWord 8 0b00001110 = some .getVCounter := by decide
theorem test_decode_getHCounter : decodeTableWord 8 0b00001111 = some .getHCounter := by decide
theorem test_decode_cmdReadVram : decodeTableWord 16 0b0011111111111111 = some (.cmdReadVram 0x3FFF) := by decide
theorem test_decode_cmdWriteVram : decodeTableWord 16 0b0101001000110100 = some (.cmdWriteVram 0x1234) := by decide
theorem test_decode_cmdWriteReg : decodeTableWord 16 0b1000101000000010 = some (.cmdWriteReg 0 10 2) := by decide
theorem test_decode_cmdWriteReg_ignored_bits : decodeTableWord 16 0b1011000011111111 = some (.cmdWriteReg 3 0 0xFF) := by
  decide
theorem test_decode_cmdWriteCram : decodeTableWord 16 0b1100000000011111 = some (.cmdWriteCram 0x001F) := by decide

theorem test_decode_refuses_a_wide_label : decodeWord 8 0b01000000 = .error .labelWiderThanSixBits := by decide
theorem test_decode_refuses_bits_beyond_the_pins : decodeWord 8 0x40000 = .error .bitsBeyondThePins := by decide
theorem test_decode_refuses_a_wide_command : decodeWord 16 0x10000 = .error .commandWiderThanSixteenBits := by decide

/-! ### Well-formedness: what each check refuses -/

theorem test_default_parameters_wf : Params.default.Wf := by decide +kernel

theorem test_wf_refuses_an_empty_line : ¬ ({ Params.default with cpl := 0 } : Params).CplOk := by decide
theorem test_wf_refuses_a_line_beyond_cyc : ¬ ({ Params.default with cpl := 512 } : Params).CplOk := by decide
theorem test_wf_refuses_a_fraction_of_one : ¬ ({ Params.default with fracNum := 1 } : Params).FracOk := by decide
theorem test_wf_refuses_a_line_all_hblank : ¬ ({ Params.default with hblankCycles := 228 } : Params).HblankOk := by decide
theorem test_wf_refuses_no_dots : ¬ ({ Params.default with dotsPerLine := 0 } : Params).DotsOk := by decide
theorem test_wf_refuses_a_short_dot_table : ¬ ({ Params.default with hcTable := [0] } : Params).DotsOk := by decide
theorem test_wf_refuses_a_short_v_table : ¬ VcTableOk 262 [0] := by decide
theorem test_wf_refuses_a_v_table_off_the_line : ¬ VcTableOk 262 (List.replicate 262 0) := by decide +kernel
theorem test_wf_refuses_more_rows_than_fit : ¬ ({ Params.default with bgRowsTall := 33 } : Params).RowsOk := by decide
theorem test_wf_refuses_no_rows : ¬ ({ Params.default with bgRowsNormal := 0 } : Params).RowsOk := by decide

/-! ### Single steps -/

/-- R250: before RESET every other step is refused. -/
theorem test_before_reset_is_refused : exec .clock State.powerOn = .refused .beforeReset := rfl

/-- R281: RESET(0, 0) from power-on is the state after reset. -/
theorem test_reset_from_power_on : exec (.reset false false) State.powerOn = .next State.reset := rfl

/-- R282: RESET discards a half-full latch and the straps may change. -/
theorem test_reset_discards : after (.reset true true) { State.reset with latch := .halfFull 1, addr := 5, linePending := true }
    (fun t => (t.latch, t.addr, t.linePending, t.gameGear, t.pal)) = some (.empty, 0, false, true, true) := by decide

/-- V26: `CLK 100; LH; RH -> 0x4B`. -/
theorem test_latchH : after .latchH (beamAt 0 100) (·.hcLatch) = some 0x4B := by decide +kernel
/-- V26: c = 198 gives 0xE9. -/
theorem test_latchH_jump : after .latchH (beamAt 0 198) (·.hcLatch) = some 0xE9 := by decide +kernel

/-- V19: HBlank rises at cyc 171. -/
theorem test_clock_hblank : after .clock (beamAt 0 170) (fun t => (t.line, t.cyc, t.hblank, t.out.events)) =
    some (0, 171, true, []) := by decide +kernel

/-- R151's example: the end of line 192 with the frame enable set. -/
theorem test_clock_line_192 :
    after .clock ((beamAt 192 227).setReg 1 0x20)
      (fun t => (t.line, t.cyc, t.status, t.framePending, t.out.events)) =
    some (193, 0, { frameIrq := true }, true, [.requestInt]) := by decide +kernel

/-- V18: the first line end writes 256 black words and sets `line_pending`. -/
theorem test_clock_line_0 :
    after .clock (beamAt 0 227) (fun t => (t.line, t.linePending, t.fb.length, t.fbWord 255)) =
      some (1, true, 256, some { r := 0, g := 0, b := 0, a := 255 }) := by decide +kernel

/-- V7: WriteData under code WRITE_REG stores into VRAM. -/
theorem test_writeData_vram :
    after (.writeData 0x5A) { State.reset with addr := 0x02FF, code := .writeReg, latch := .halfFull 9 }
      (fun t => (t.vramByte 0x02FF, t.addr, t.readBuf, t.latch)) = some (0x5A, 0x0300, 0x5A, .empty) := by decide +kernel

/-- V9: on Master System CRAM address 0x20 is byte 0. -/
theorem test_writeData_cram :
    after (.writeData 0x15) { State.reset with addr := 0x0020, code := .writeCram }
      (fun t => (t.cram, t.vram, t.addr)) = some ([(0, 0x15)], [], 0x0021) := by decide +kernel

/-- V2: a first byte changes only the latch. -/
theorem test_writeControl_first :
    after (.writeControl 0x34) State.reset (fun t => (t.latch, t.addr, t.code)) = some (.halfFull 0x34, 0, .readVram) := by
  decide
/-- V1: `WC 0x34; WC 0x52`. -/
theorem test_writeControl_second :
    after (.writeControl 0x52) { State.reset with latch := .halfFull 0x34 } (fun t => (t.latch, t.addr, t.code)) =
      some (.empty, 0x1234, .writeVram) := by decide

/-- V15. -/
theorem test_reservedW2 : after (.reservedW2 3) { State.reset with latch := .halfFull 0x55 } (fun t => (t.latch, t.addr)) =
    some (.halfFull 0x55, 0) := by decide
/-- V15. -/
theorem test_reservedW3 : after (.reservedW3 3) { State.reset with latch := .halfFull 0x55 } (fun t => (t.latch, t.addr)) =
    some (.halfFull 0x55, 0) := by decide

/-- V11's first read. -/
theorem test_getDataPort :
    after .getDataPort { State.reset with vram := [(0x10, 0x77), (0x11, 0x88)], readBuf := 0x77, addr := 0x11 }
      (fun t => (t.out.returned, t.readBuf, t.addr)) = some (some 0x77, 0x88, 0x12) := by decide +kernel
/-- V16: the refill reads VRAM in CRAM mode too. -/
theorem test_getDataPort_cram_mode :
    after .getDataPort { State.reset with cram := [(1, 9)], readBuf := 0x3F, addr := 1, code := .writeCram }
      (fun t => (t.out.returned, t.readBuf, t.addr)) = some (some 0x3F, 0, 2) := by decide +kernel

/-- R130's example. -/
theorem test_getStatusFlags :
    after .getStatusFlags
      { State.reset with status := { frameIrq := true, spriteCollision := true }, linePending := true, framePending := true }
      (fun t => (t.out.returned, t.status, t.linePending, t.framePending)) = some (some 0xA0, {}, false, false) := by decide

/-- V24: NTSC line 219 reads 0xD5. -/
theorem test_getVCounter : after .getVCounter (beamAt 219 0) (·.out.returned) = some (some 0xD5) := by decide +kernel
/-- V25: PAL line 243 reads 0xBA. -/
theorem test_getVCounter_pal : after .getVCounter { beamAt 243 0 with pal := true } (·.out.returned) = some (some 0xBA) := by
  decide +kernel

/-- V27: the latch holds whatever the beam does. -/
theorem test_getHCounter : after .getHCounter { beamAt 1 49 with hcLatch := 0xFF } (·.out.returned) = some (some 0xFF) := by
  decide

/-- V4. -/
theorem test_cmdReadVram : after (.cmdReadVram 0x3FFF) { State.reset with vram := [(0x3FFF, 0x22)] }
    (fun t => (t.readBuf, t.addr, t.code)) = some (0x22, 0, .readVram) := by decide +kernel
/-- R127. -/
theorem test_cmdWriteVram : after (.cmdWriteVram 0x1234) { State.reset with readBuf := 7 }
    (fun t => (t.readBuf, t.addr, t.code)) = some (7, 0x1234, .writeVram) := by decide
/-- V5: index 11 changes no register. -/
theorem test_cmdWriteReg_missing : after (.cmdWriteReg 0 11 7) State.reset (fun t => (t.regs, t.addr, t.code)) =
    some (Vector.replicate 11 0, 0x0B07, .writeReg) := by decide
/-- R126's example. -/
theorem test_cmdWriteReg_asserts : after (.cmdWriteReg 0 1 0x20) { State.reset with framePending := true }
    (fun t => (t.reg 1, t.out.events)) = some (0x20, [.requestInt]) := by decide
/-- R131. -/
theorem test_cmdWriteCram : after (.cmdWriteCram 0x3FFF) State.reset (fun t => (t.addr, t.code)) =
    some (0x3FFF, .writeCram) := by decide

/-! ### Parts of the line end -/

/-- R195's example: e = 0x1A05. -/
theorem test_decodeEntry : decodeEntry 0x1A05 = { pat := 5, hf := true, vf := false, bank := true, prio := true } := by decide

/-- R100: plane 0 is the least significant bit, bit 7 the leftmost pixel; a flip takes column 7 - px. -/
theorem test_pixelIndex :
    pixelIndex { p0 := 0x80, p1 := 0, p2 := 0x80, p3 := 0 } 0 false = 5 ∧
      pixelIndex { p0 := 0x80, p1 := 0, p2 := 0x80, p3 := 0 } 7 true = 5 := by decide

/-- R191's corner case: 28 rows, Vs = 255, line 0 gives row 3, fine row 7. -/
theorem test_bgRow_tall : ({ State.reset.setReg 1 0x10 with vscrollLatched := 255 } : State).bgRow 0 = (3, 7) := by
  decide +kernel

/-- R199: the diagonal scrolled by 3, line 2. -/
theorem test_background_scroll :
    let s : State := { (State.reset.setReg 2 0x0E).setReg 8 3 with vram := [(0x28, 0x20), (0x3800, 1), (0x383E, 1)] }
    (s.bgSlotAt 2 5).bgIdx = 1 ∧ (s.bgSlotAt 2 4).bgIdx = 0 ∧ (s.bgSlotAt 2 253).bgIdx = 1 := by decide +kernel

/-- A state with the two sprites of R220 on line 10, without the background. -/
def twoSprites : State :=
  { (State.reset.setReg 5 0x7E).setReg 6 0x04 with
    vram := [(0x2040, 0xFF), (0x2061, 0xFF), (0x3F00, 9), (0x3F01, 9), (0x3F02, 0xD0), (0x3F80, 16), (0x3F81, 2),
      (0x3F82, 20), (0x3F83, 3)] }

/-- R220: both sprites cover line 10, and slot 22 goes to sprite 0, slot 24 to sprite 1. -/
theorem test_two_sprites :
    twoSprites.contributors 10 = [0, 1] ∧ twoSprites.spriteOwner 10 22 = some 0 ∧ twoSprites.spriteOwner 10 24 = some 1 ∧
      twoSprites.spriteIndexAt 10 1 24 = 2 := by decide +kernel

/-- R213: Y = 0xFF covers line 0, Y = 10 does not cover line 10. -/
theorem test_spriteRow : spriteRow 0 0xFF = 0 ∧ spriteRow 10 10 = 255 ∧ spriteRow 10 5 = 4 := by decide

/-- R233 and R234's examples. -/
theorem test_colours :
    smsColour 0x24 = { r := 0, g := 85, b := 170, a := 255 } ∧ ggColour 0x0CA5 = { r := 85, g := 170, b := 204, a := 255 } := by
  decide

/-- R236's examples. -/
theorem test_fbIndex :
    State.reset.fbIndex 191 255 = some 49151 ∧
      ({ State.reset with gameGear := true } : State).fbIndex 24 48 = some 0 ∧
      ({ State.reset with gameGear := true } : State).fbIndex 167 207 = some 23039 ∧
      ({ State.reset with gameGear := true } : State).fbIndex 23 100 = none := by decide

/-! ### The memories and the step -/

theorem test_reset_memories_wf : Memory.wf vramSize State.reset.vram = true ∧ Memory.wf cramStorage State.reset.cram = true := by
  decide

/-- Writing what an unlisted address reads as takes the cell out. -/
theorem test_write_zero_unlists : Memory.write [(3, 7)] 3 0 = [] := by decide

/-- `withFetchWord` makes the very next step run the word. -/
theorem test_step_runs_a_label :
    (nextOf (step (State.reset.withFetchWord 8 0x3409))).map (fun t => (t.latch, t.input)) = some (.halfFull 0x34, []) := by
  decide +kernel
theorem test_step_runs_a_command :
    (nextOf (step (State.reset.withFetchWord 16 0x5234))).map (fun t => (t.latch, t.addr, t.code, t.input)) =
      some (.empty, 0x1234, .writeVram, []) := by decide +kernel

/-! ### Witnesses: states and operands that meet the hypotheses of the statements -/

/-- A state in the invariant that no short run reaches: mid-frame, Game Gear, PAL, a label waiting. -/
def midFrame : State :=
  { State.reset with
    gameGear := true, pal := true, line := 300, cyc := 200, hblank := true, vram := [(0x3FFF, 1)], cram := [(63, 2)]
    fb := [(0, { r := 0, g := 0, b := 0, a := 255 })], input := [{ ev := 0 }] }

theorem witness_stored : State.reset.Stored := ⟨test_default_parameters_wf, rfl, rfl, rfl⟩

theorem witness_inv_midFrame : midFrame.Inv :=
  ⟨⟨test_default_parameters_wf, by decide, by decide, by decide⟩, rfl, rfl, by decide, by decide, .inl rfl, by decide,
    by decide, by intro h; exact absurd h (by decide)⟩

theorem witness_DecodeOfEncodeIsTheInstruction : (Instr.cmdWriteReg 3 15 0xFF).wf = true := rfl

theorem witness_StepRunsTheRequestedInstruction_label :
    ∃ s : State, ∃ p rest, s.input = p :: rest ∧ decodeEv p = .reset true true ∧ s.latch = .halfFull 0 ∧
      ∀ b, Instr.reset true true ≠ .writeControl b :=
  ⟨{ State.reset with input := [{ ev := 0x3F, d := 0xFF, gameGear := true, pal := true }], latch := .halfFull 0 }, _, _, rfl,
    rfl, rfl, by simp⟩
theorem witness_StepRunsTheRequestedInstruction_first_byte :
    ∃ s : State, ∃ p rest, s.input = p :: rest ∧ decodeEv p = .writeControl 0xFF ∧ s.latch = .empty :=
  ⟨{ State.reset with input := [{ ev := 0x09, d := 0xFF }] }, _, _, rfl, rfl, rfl⟩
theorem witness_StepRunsTheRequestedInstruction_second_byte :
    ∃ s : State, ∃ p rest, s.input = p :: rest ∧ decodeEv p = .writeControl 0xFF ∧ s.latch = .halfFull 0xFF :=
  ⟨{ State.reset with input := [{ ev := 0x09, d := 0xFF }], latch := .halfFull 0xFF }, _, _, rfl, rfl, rfl⟩
theorem witness_StepWithoutALabelKeepsAllState : State.reset.input = [] := rfl
theorem witness_FetchWordRunsItsInstruction :
    decodeTableWord 8 0x3FF0C = some .getDataPort ∧ decodeTableWord 8 0xFF09 = some (.writeControl 0xFF) ∧
      decodeTableWord 16 0xFFFF = some (.cmdWriteCram 0x3FFF) := by decide
theorem witness_SecondControlByteRunsTheCommandWord :
    ({ State.reset with latch := .halfFull 0xFF } : State).latch = .halfFull 0xFF := rfl
theorem witness_OnlyResetIsAcceptedBeforeReset :
    State.powerOn.initialised = false ∧ ∀ g p, Instr.clock ≠ .reset g p := ⟨rfl, by simp⟩
/-- For every statement whose only hypothesis is `initialised`, or `initialised` with an Empty latch. -/
theorem witness_initialised : State.reset.initialised = true ∧ State.reset.latch = .empty := ⟨rfl, rfl⟩
theorem witness_SecondControlByteLoadsAddressAndCode :
    ({ State.reset with latch := .halfFull 0xFF } : State).initialised = true ∧
      ({ State.reset with latch := .halfFull 0xFF } : State).latch = .halfFull 0xFF := ⟨rfl, rfl⟩
theorem witness_EnableTransitionAsserts :
    (∃ t, exec (.cmdWriteReg 0 0 0x10) { State.reset with linePending := true } = .next t) ∧
      ∃ t, exec (.cmdWriteReg 3 1 0x20) { State.reset with framePending := true } = .next t := ⟨⟨_, rfl⟩, ⟨_, rfl⟩⟩
/-- Both codes of WriteDataStoresOneByte, at the highest address. -/
theorem witness_WriteDataStoresOneByte :
    let v : State := { State.reset with code := .writeReg, addr := 0x3FFF }
    let c : State := { State.reset with code := .writeCram, addr := 0x3FFF }
    (v.initialised = true ∧ v.Stored ∧ v.code ≠ .writeCram) ∧ c.initialised = true ∧ c.Stored ∧ c.code = .writeCram :=
  ⟨⟨rfl, ⟨test_default_parameters_wf, rfl, rfl, rfl⟩, by decide⟩, rfl, ⟨test_default_parameters_wf, rfl, rfl, rfl⟩, rfl⟩
theorem witness_CounterReadsChangeNothing :
    (beamAt 191 0).initialised = true ∧ (beamAt 191 0).params.Wf ∧ (beamAt 191 0).line.toNat < 192 :=
  ⟨rfl, test_default_parameters_wf, by decide⟩

/-- Registers, VRAM and CRAM written. -/
theorem witness_WritersOfRegistersAndMemories :
    after (.cmdWriteReg 0 10 1) State.reset (fun t => decide (t.regs ≠ State.reset.regs)) = some true ∧
      after (.writeData 1) State.reset (fun t => decide (t.vram ≠ State.reset.vram)) = some true ∧
      after (.writeData 1) { State.reset with code := .writeCram } (fun t => decide (t.cram ≠ State.reset.cram)) = some true := by
  decide +kernel
/-- The frame buffer and the info buffer written at a line end. -/
theorem witness_WritersOfRegistersAndMemories_picture :
    after .clock ({ beamAt 24 227 with gameGear := true } : State) (fun t => t.fb.isEmpty) = some false ∧
      after (.reset false false) { State.reset with info := Vector.replicate 256 { spr := true } }
        (fun t => (t.info[255]).spr) = some false := by
  decide +kernel
/-- Steps that set each flag, and one that leaves a set flag alone. -/
theorem witness_FlagsAreStickyUntilStatusReadOrReset :
    after .clock (beamAt 192 227) (fun t => (t.status.frameIrq, t.framePending)) = some (true, true) ∧
      after .clock { beamAt 261 227 with status := { spriteOverflow := true }, lineCounter := 0 }
        (fun t => (t.status.spriteOverflow, t.linePending)) = some (true, false) ∧
      after .clock (beamAt 1 227) (fun t => (t.status.spriteOverflow, t.linePending)) = some (true, true) := by
  decide +kernel
theorem witness_WritersOfAddressCodeAndReadBuffer :
    (∃ t, exec .getDataPort State.reset = .next t) ∧ (∀ g p, Instr.getDataPort ≠ .reset g p) ∧
      (∀ w, Instr.getDataPort ≠ decodeCw w) ∧ ∀ b, Instr.getDataPort = .writeControl b → State.reset.latch = .empty := by
  refine ⟨⟨_, rfl⟩, by simp, ?_, by simp⟩
  intro w h
  unfold decodeCw at h
  split at h <;> cases h
theorem witness_WritersOfTimingStateAndStraps : ∃ t, exec .latchH (beamAt 0 227) = .next t := ⟨_, rfl⟩
theorem witness_LatchIsHalfFullOnlyBetweenTheTwoBytes :
    (∃ t, exec (.writeControl 0x34) State.reset = .next t ∧ t.latch = .halfFull 0x34) ∧
      ∃ t, exec .getHCounter { State.reset with latch := .halfFull 0x34 } = .next t ∧ t.latch = .halfFull 0x34 :=
  ⟨⟨_, rfl, rfl⟩, ⟨_, rfl, rfl⟩⟩

theorem witness_ClockInsideALineOnlyMovesTheBeam :
    (beamAt 0 226).initialised = true ∧ (beamAt 0 226).cyc.toNat + 1 ≠ (beamAt 0 226).lineLen := ⟨rfl, by decide⟩
/-- A line end on every side of the clauses' boundaries: lines 0, 191, 192, 193, 260 and 261. -/
theorem witness_line_ends :
    ∀ L ∈ [0, 191, 192, 193, 260, 261], (beamAt L 227).initialised = true ∧ (beamAt L 227).cyc.toNat + 1 = (beamAt L 227).lineLen ∧
      (beamAt L 227).line.toNat = L ∧ (beamAt L 227).line.toNat < (beamAt L 227).linesPerFrame := by decide
theorem witness_LineEndStepsTheLineCounter :
    let s := beamAt 191 227
    (s.line.toNat ≤ s.params.lcLastDecLine ∧ s.lineCounter = 0) ∧
      (beamAt 192 227).params.lcLastDecLine < (beamAt 192 227).line.toNat ∧
      ({ beamAt 191 227 with lineCounter := 1 } : State).lineCounter ≠ 0 := by decide
/-- With FRAC_NUM / FRAC_DEN = 1 / 3, one line without and one with the longer length (V31). -/
theorem witness_NextLineLengthKeepsTheFraction :
    let c : Params := { Params.default with fracNum := 1, fracDen := 3 }
    ∀ a ∈ [0, 2], c.FracOk ∧ ({ beamAt 200 227 with params := c, fracAcc := a } : State).fracAcc < c.fracDen ∧
      ({ beamAt 200 227 with params := c, fracAcc := a } : State).cyc.toNat + 1 =
        ({ beamAt 200 227 with params := c, fracAcc := a } : State).lineLen := by decide
theorem witness_TickInsideALineOnlyMovesTheBeam :
    (beamAt 0 0).initialised = true ∧ (beamAt 0 0).params.Wf ∧ (beamAt 0 0).lineLen ≤ (beamAt 0 0).params.cpl + 1 ∧
      (beamAt 0 0).cyc.toNat + 227 < (beamAt 0 0).lineLen := ⟨rfl, test_default_parameters_wf, by decide, by decide⟩
/-- The start of a frame that is not the first: flags, memory and frame buffer left from before. -/
theorem witness_BeamPositionAfterTicks :
    let s : State := { midFrame with line := 0, cyc := 0, hblank := false, status := { frameIrq := true }, framePending := true }
    s.Inv ∧ s.params.fracNum = 0 ∧ s.line = 0 ∧ s.cyc = 0 ∧ s.lineLen = s.params.cpl :=
  ⟨⟨⟨test_default_parameters_wf, by decide, by decide, by decide⟩, rfl, rfl, by decide, by decide, .inl rfl, by decide,
    by decide, by intro h; exact absurd h (by decide)⟩, rfl, rfl, rfl, rfl⟩
/-- Every kind of step that emits a RequestINT. -/
theorem witness_RequestIntImpliesTheIntLevel :
    after .clock ((beamAt 192 227).setReg 1 0x20) (fun t => decide (Event.requestInt ∈ t.out.events)) = some true ∧
      after (.cmdWriteReg 0 0 0x10) { State.reset with linePending := true }
        (fun t => decide (Event.requestInt ∈ t.out.events)) = some true ∧
      after (.writeControl 0x81) { State.reset with latch := .halfFull 0x20, framePending := true }
        (fun t => decide (Event.requestInt ∈ t.out.events)) = some true := by decide +kernel
theorem witness_VCounterChangesOnlyAtALineEnd :
    after .clock (beamAt 192 227) (fun t => decide (t.vCounter ≠ (beamAt 192 227).vCounter)) = some true := by decide +kernel
theorem witness_RasterTablesStayInsideVram : State.reset.params.Wf := test_default_parameters_wf
/-- The straps and lines of every clause of OutputPassWritesExactlyTheLinesWords and ColoursAreTheScaledChannels. -/
theorem witness_straps :
    State.reset.gameGear = false ∧ midFrame.gameGear = true ∧ (24 ≤ 24 ∧ 24 ≤ 167) ∧ (24 ≤ 167 ∧ 167 ≤ 167) ∧ (23 < 24 ∨ 167 < 23) ∧
      (168 < 24 ∨ 167 < 168) := by decide
/-- Both straps, and every side of the Game Gear window's line clauses: lines 0, 23, 24, 167, 168 and 191. -/
theorem witness_LineEndShowsEveryPixelOfTheLine :
    ∀ L ∈ [0, 23, 24, 167, 168, 191], ∀ g ∈ [false, true],
      let s : State := { beamAt L 227 with gameGear := g }
      s.initialised = true ∧ s.cyc.toNat + 1 = s.lineLen ∧ s.line.toNat < 192 ∧ s.line.toNat = L ∧ s.gameGear = g := by
  decide
theorem witness_LinesBelowTheDisplayDrawNothing :
    (beamAt 192 227).initialised = true ∧ (beamAt 192 227).cyc.toNat + 1 = (beamAt 192 227).lineLen ∧ 192 ≤ (beamAt 192 227).line.toNat := by
  decide
/-- The two sprites over a priority background: index 0 in slots 16..23, index 1 in slots 24..31, index 1 without a sprite in
slots 0..7. -/
def spritesOverPriority : State :=
  { twoSprites with vram := [(40, 0xFF), (64, 1), (69, 0x10), (70, 1), (71, 0x10)] ++ twoSprites.vram }
/-- R231's decision table, row by row. -/
theorem test_selectEntry_table :
    let s := spritesOverPriority
    s.selectEntry (twoSprites.shownSlot 10 16) = 17 ∧ s.selectEntry (s.shownSlot 10 16) = 17 ∧
      s.selectEntry (s.shownSlot 10 24) = 1 ∧ s.selectEntry (s.shownSlot 10 0) = 1 ∧ s.selectEntry (s.shownSlot 10 8) = 16 ∧
      s.selectEntry { bgIdx := 5, bgBank := true } = 21 ∧ s.selectEntry { bgIdx := 5, spr := true, sprIdx := 3 } = 19 := by
  decide +kernel
theorem witness_ShownSlotsSelectLegalEntries :
    let s := spritesOverPriority
    (twoSprites.spriteOwner 10 16 = some 0 ∧ (twoSprites.bgSlotAt 10 16).bgPrio = false) ∧
      (s.spriteOwner 10 16 = some 0 ∧ (s.bgSlotAt 10 16).bgPrio = true ∧ (s.bgSlotAt 10 16).bgIdx = 0) ∧
      (s.spriteOwner 10 24 = some 1 ∧ (s.bgSlotAt 10 24).bgPrio = true ∧ (s.bgSlotAt 10 24).bgIdx ≠ 0) ∧
      (s.spriteOwner 10 0 = none ∧ (s.bgSlotAt 10 0).bgIdx ≠ 0) ∧ s.spriteOwner 10 8 = none ∧ (s.bgSlotAt 10 8).bgIdx = 0 := by
  decide +kernel
theorem witness_UploadedBytesReadBack :
    State.reset.initialised = true ∧ State.reset.Stored ∧ (List.replicate 0x4000 (0 : Byte)).length ≤ 0x4000 :=
  ⟨rfl, witness_stored, by rw [List.length_replicate]⟩
/-- The last line of both timings. -/
theorem witness_FrameEndLatchesScrollAndSignalsTheFrame :
    ∀ p ∈ [(false, 261), (true, 312)],
      let s : State := { beamAt p.2 227 with pal := p.1 }
      s.initialised = true ∧ s.cyc.toNat + 1 = s.lineLen ∧ s.line.toNat = (if s.pal = true then 312 else 261) ∧
        s.params.lcLastDecLine < s.line.toNat := by decide
/-- A frame end that changes the latched scroll, a RESET that does, and steps that are no frame end: a line end before the last and
a step inside the last line. -/
theorem witness_VerticalScrollIsLatchedForTheNextFrame :
    after .clock ((beamAt 261 227).setReg 9 5) (·.vscrollLatched) = some 5 ∧
      after (.reset false false) { State.reset with vscrollLatched := 5 } (·.vscrollLatched) = some 0 ∧
      (beamAt 260 227).line.toNat + 1 ≠ (beamAt 260 227).linesPerFrame ∧ (beamAt 261 0).cyc.toNat + 1 ≠ (beamAt 261 0).lineLen := by
  decide +kernel
theorem witness_FirstLineAfterResetUnderflows : State.powerOn.params.Wf := test_default_parameters_wf
theorem witness_ResetEstablishesTheInvariant :
    State.powerOn.params.Wf ∧ Cells.rising State.powerOn.fb = true ∧ ∃ t, exec (.reset true true) State.powerOn = .next t :=
  ⟨test_default_parameters_wf, rfl, _, rfl⟩
theorem witness_EveryStepKeepsTheInvariant : midFrame.Inv ∧ ∃ t, step midFrame = .next t :=
  ⟨witness_inv_midFrame, _, rfl⟩

end Sys2Proof.Tests.Slice0
end

section
/-! PROOFS. The statements of spec/10_state.md: which operation may change which element, the invariant of R51, RESET, and the
line's timing. -/

namespace Sys2Proof.Machine

open Sys2Proof.Config

/-! ### What each operation leaves alone -/

/-- All that `exec` can answer as a next state, RESET apart from the operations that start from a cleared output. -/
theorem exec_next_reset_or {i : Instr} {s t : State} (h : exec i s = .next t) :
    (∃ g p, i = .reset g p ∧ t = s.afterReset g p) ∨ ((∀ g p, i ≠ .reset g p) ∧ t = effect i s.beginStep) := by
  by_cases hr : ∃ g p, i = .reset g p
  · obtain ⟨g, p, rfl⟩ := hr
    cases h
    exact .inl ⟨g, p, rfl, rfl⟩
  · have hr' : ∀ g p, i ≠ .reset g p := fun g p e => hr ⟨g, p, e⟩
    exact .inr ⟨hr', (exec_next_of_ne_reset hr' h).2⟩

/-- What every operation but CLOCK and RESET leaves alone: the beam, the line counter, the latched scroll, the picture, the
straps, the parameters and the waiting labels (R32 to R34, R40, R41, R45 to R47, R49). -/
structure HostFrame (s t : State) : Prop where
  info           : t.info = s.info
  line           : t.line = s.line
  cyc            : t.cyc = s.cyc
  fracAcc        : t.fracAcc = s.fracAcc
  lineLen        : t.lineLen = s.lineLen
  hblank         : t.hblank = s.hblank
  lineCounter    : t.lineCounter = s.lineCounter
  vscrollLatched : t.vscrollLatched = s.vscrollLatched
  gameGear       : t.gameGear = s.gameGear
  pal            : t.pal = s.pal
  initialised    : t.initialised = s.initialised
  fb             : t.fb = s.fb
  params         : t.params = s.params
  input          : t.input = s.input

/-- What a port write leaves alone beside the host's frame: the flags and the H latch (R35, R36, R42). -/
structure PortWriteFrame (s t : State) : Prop extends HostFrame s t where
  status       : t.status = s.status
  linePending  : t.linePending = s.linePending
  framePending : t.framePending = s.framePending
  hcLatch      : t.hcLatch = s.hcLatch

/-- What a control byte and a command word leave alone: also the two memories (R43, R44). -/
structure CommandFrame (s t : State) : Prop extends PortWriteFrame s t where
  vram : t.vram = s.vram
  cram : t.cram = s.cram

/-- What CLOCK leaves alone: the registers, the memories, the port protocol's elements, the H latch, the straps, the parameters
and the waiting labels (R150, R151). -/
structure ClockFrame (s t : State) : Prop where
  regs        : t.regs = s.regs
  vram        : t.vram = s.vram
  cram        : t.cram = s.cram
  latch       : t.latch = s.latch
  addr        : t.addr = s.addr
  code        : t.code = s.code
  readBuf     : t.readBuf = s.readBuf
  hcLatch     : t.hcLatch = s.hcLatch
  gameGear    : t.gameGear = s.gameGear
  pal         : t.pal = s.pal
  initialised : t.initialised = s.initialised
  params      : t.params = s.params
  input       : t.input = s.input

/-- CLOCK keeps its frame, whether it ends a line or not. -/
theorem clockEffect_clockFrame (s : State) : ClockFrame s (clockEffect s) := by
  cases h : s.atLineEnd
  · rw [clockEffect_inside s h]
    constructor <;> rfl
  · rw [clockEffect_lineEnd s h]
    constructor <;> simp

/-- A first control byte (R122). -/
theorem effect_writeControl_empty (b : Byte) {s : State} (h : s.latch = .empty) :
    effect (.writeControl b) s = { s with latch := .halfFull b } := by
  simp only [effect, h]

/-- WriteControl writes the latch, and with a second byte what the command word writes. -/
theorem effect_writeControl_frame (b : Byte) (s : State) : CommandFrame s (effect (.writeControl b) s) := by
  simp only [effect]
  split
  · exact ⟨⟨by constructor <;> rfl, rfl, rfl, rfl, rfl⟩, rfl, rfl⟩
  · obtain ⟨regs, out, addr, readBuf, e⟩ := commandAction_frame (s.loadCommand (assembleCode b) (assembleAddr b _))
    rw [e]
    exact ⟨⟨by constructor <;> rfl, rfl, rfl, rfl, rfl⟩, rfl, rfl⟩

/-- CMD.WRITE_REG loads the word and writes at most the register file and the outputs. -/
theorem effect_cmdWriteReg_eq (u : BitVec 2) (idx : BitVec 4) (v : Byte) (s : State) :
    ∃ regs out, effect (.cmdWriteReg u idx v) s = { s with
      regs := regs, latch := .empty, addr := u ++ idx ++ v, code := .writeReg, out := out } := by
  obtain ⟨regs, out, e⟩ := writeRegister_frame (s.loadCommand .writeReg (u ++ idx ++ v)) idx v
  exact ⟨regs, out, e⟩

theorem effect_cmdWriteReg_frame (u : BitVec 2) (idx : BitVec 4) (v : Byte) (s : State) :
    CommandFrame s (effect (.cmdWriteReg u idx v) s) := by
  obtain ⟨regs, out, e⟩ := effect_cmdWriteReg_eq u idx v s
  rw [e]
  exact ⟨⟨by constructor <;> rfl, rfl, rfl, rfl, rfl⟩, rfl, rfl⟩

/-- WriteData writes one of the two memories, the latch, the read buffer and the address. -/
theorem effect_writeData_eq (b : Byte) (s : State) :
    ∃ vram cram, effect (.writeData b) s = { s with
      vram := vram, cram := cram, latch := .empty, readBuf := b, addr := s.addr + 1 } := by
  obtain ⟨vram, cram, e⟩ := dataStore_frame s b
  refine ⟨vram, cram, ?_⟩
  simp only [effect, e]
  rfl

theorem effect_writeData_frame (b : Byte) (s : State) : PortWriteFrame s (effect (.writeData b) s) := by
  obtain ⟨vram, cram, e⟩ := effect_writeData_eq b s
  rw [e]
  exact ⟨by constructor <;> rfl, rfl, rfl, rfl, rfl⟩

section

variable {i : Instr} {s : State}

/-- Every operation but CLOCK and RESET is the host's alone (R120). -/
theorem effect_hostFrame (hc : i ≠ .clock) (hr : ∀ g p, i ≠ .reset g p) : HostFrame s (effect i s) := by
  cases i with
  | reset g p => exact absurd rfl (hr g p)
  | clock => exact absurd rfl hc
  | writeData b => exact (effect_writeData_frame b s).toHostFrame
  | writeControl b => exact (effect_writeControl_frame b s).toHostFrame
  | cmdWriteReg u idx v => exact (effect_cmdWriteReg_frame u idx v s).toHostFrame
  | _ => constructor <;> rfl

/-- VRAM changes at WriteData with a code other than 3, at the byte addressed (R128). -/
theorem effect_vram (hr : ∀ g p, i ≠ .reset g p) :
    (effect i s).vram = s.vram ∨
      ∃ b, i = .writeData b ∧ s.code ≠ .writeCram ∧ (effect i s).vram = s.vram.write (s.addr.toNat % vramSize) b := by
  cases i with
  | reset g p => exact absurd rfl (hr g p)
  | clock => exact .inl (clockEffect_clockFrame s).vram
  | writeData b =>
    by_cases hc : s.code = .writeCram
    · exact .inl (by simp [effect, dataStore_cram s b hc])
    · exact .inr ⟨b, rfl, hc, by simp [effect, dataStore_vram s b hc]⟩
  | writeControl b => exact .inl (effect_writeControl_frame b s).vram
  | cmdWriteReg u idx v => exact .inl (effect_cmdWriteReg_frame u idx v s).vram
  | _ => exact .inl rfl

/-- CRAM changes at WriteData with code 3, at the address modulo CRAM_SIZE (R128). -/
theorem effect_cram (hr : ∀ g p, i ≠ .reset g p) :
    (effect i s).cram = s.cram ∨
      ∃ b, i = .writeData b ∧ s.code = .writeCram ∧ (effect i s).cram = s.cram.write (s.addr.toNat % s.cramSize) b := by
  cases i with
  | reset g p => exact absurd rfl (hr g p)
  | clock => exact .inl (clockEffect_clockFrame s).cram
  | writeData b =>
    by_cases hc : s.code = .writeCram
    · exact .inr ⟨b, rfl, hc, by simp [effect, dataStore_cram s b hc]⟩
    · exact .inl (by simp [effect, dataStore_vram s b hc])
  | writeControl b => exact .inl (effect_writeControl_frame b s).cram
  | cmdWriteReg u idx v => exact .inl (effect_cmdWriteReg_frame u idx v s).cram
  | _ => exact .inl rfl

/-- Registers change at WRITE_REG and at the second control byte that completes it (R125). -/
theorem effect_regs (hr : ∀ g p, i ≠ .reset g p) :
    (effect i s).regs = s.regs ∨ (∃ u r v, i = .cmdWriteReg u r v) ∨ ∃ b, i = .writeControl b ∧ s.latch ≠ .empty := by
  cases i with
  | reset g p => exact absurd rfl (hr g p)
  | clock => exact .inl (clockEffect_clockFrame s).regs
  | writeData b =>
    obtain ⟨vram, cram, e⟩ := effect_writeData_eq b s
    exact .inl (by rw [e])
  | writeControl b =>
    by_cases hl : s.latch = .empty
    · exact .inl (by rw [effect_writeControl_empty b hl])
    · exact .inr (.inr ⟨b, rfl, hl⟩)
  | cmdWriteReg u r v => exact .inr (.inl ⟨u, r, v, rfl⟩)
  | _ => exact .inl rfl

/-- The host's operations leave the five flags alone, but for the status read, which clears them (R35, R36, R130). -/
theorem effect_flags (hc : i ≠ .clock) (hr : ∀ g p, i ≠ .reset g p) :
    ((effect i s).status = s.status ∧ (effect i s).linePending = s.linePending ∧
        (effect i s).framePending = s.framePending) ∨
      i = .getStatusFlags ∧ (effect i s).status = {} ∧ (effect i s).linePending = false ∧
        (effect i s).framePending = false := by
  cases i with
  | reset g p => exact absurd rfl (hr g p)
  | clock => exact absurd rfl hc
  | writeData b =>
    have e := effect_writeData_frame b s
    exact .inl ⟨e.status, e.linePending, e.framePending⟩
  | writeControl b =>
    have e := effect_writeControl_frame b s
    exact .inl ⟨e.status, e.linePending, e.framePending⟩
  | cmdWriteReg u idx v =>
    have e := effect_cmdWriteReg_frame u idx v s
    exact .inl ⟨e.status, e.linePending, e.framePending⟩
  | getStatusFlags => exact .inr ⟨rfl, rfl, rfl, rfl⟩
  | _ => exact .inl ⟨rfl, rfl, rfl⟩

/-- Only LATCHH writes `hc_latch` (R172). -/
theorem effect_hcLatch (hl : i ≠ .latchH) (hr : ∀ g p, i ≠ .reset g p) : (effect i s).hcLatch = s.hcLatch := by
  cases i with
  | reset g p => exact absurd rfl (hr g p)
  | latchH => exact absurd rfl hl
  | clock => exact (clockEffect_clockFrame s).hcLatch
  | writeData b => exact (effect_writeData_frame b s).hcLatch
  | writeControl b => exact (effect_writeControl_frame b s).hcLatch
  | cmdWriteReg u idx v => exact (effect_cmdWriteReg_frame u idx v s).hcLatch
  | _ => rfl

/-- No operation but RESET writes the straps or `initialised` (R47), and none the parameters or the waiting labels. -/
theorem effect_straps (hr : ∀ g p, i ≠ .reset g p) :
    (effect i s).gameGear = s.gameGear ∧ (effect i s).pal = s.pal ∧ (effect i s).initialised = s.initialised ∧
      (effect i s).params = s.params ∧ (effect i s).input = s.input := by
  by_cases hc : i = .clock
  · subst hc
    have e := clockEffect_clockFrame s
    exact ⟨e.gameGear, e.pal, e.initialised, e.params, e.input⟩
  · have e := effect_hostFrame (s := s) hc hr
    exact ⟨e.gameGear, e.pal, e.initialised, e.params, e.input⟩

end

/-! ### The invariant of R51 -/

/-- `hblank` as R167 has it, after every CLOCK. -/
theorem clockEffect_hblank (s : State) : (clockEffect s).hblank = (clockEffect s).inHblank := rfl

/-- Usable parameters keep the line within the 9-bit counter (R32, R33). -/
theorem State.Inv.lineLen_le {s : State} (h : s.Inv) : s.lineLen ≤ 512 := by
  obtain ⟨⟨-, hcpl⟩, -⟩ := h.stored.paramsWf
  rcases h.lineLenRange with e | e <;> omega

/-- The output pass keeps the frame buffer's words in rising order. -/
theorem outputFb_rising {s : State} (L : Nat) (h : Cells.rising s.fb = true) : Cells.rising (s.outputFb L) = true := by
  refine List.foldlRecOn (motive := fun fb => Cells.rising fb = true) _ _ h fun fb hfb X _ => ?_
  unfold State.emitPixel
  split
  · exact FrameBuffer.rising_write _ _ hfb
  · exact hfb

/-- A line end keeps the frame buffer's words in rising order. -/
theorem lineEnd_fb_rising {s : State} (h : Cells.rising s.fb = true) : Cells.rising (lineEnd s).fb = true := by
  rw [lineEnd_fb]
  split
  · rw [renderLine_fb]
    exact outputFb_rising _ h
  · exact h

/-- The account of R153: the next line's length and the carry share out `CPL` and the two fractions. -/
theorem lineEnd_fraction {s : State} (hn : s.params.FracOk) (ha : s.fracAcc < s.params.fracDen) :
    (lineEnd s).fracAcc < s.params.fracDen ∧
      ((lineEnd s).lineLen = s.params.cpl ∨ (lineEnd s).lineLen = s.params.cpl + 1) ∧
      (lineEnd s).lineLen * s.params.fracDen + (lineEnd s).fracAcc =
        s.params.cpl * s.params.fracDen + s.fracAcc + s.params.fracNum := by
  have hn : s.params.fracNum < s.params.fracDen := hn
  rw [lineEnd_fracAcc, lineEnd_lineLen]
  split
  · rw [Nat.add_mul, Nat.one_mul]
    omega
  · omega

theorem linesPerFrame_bounds (s : State) : 2 ≤ s.linesPerFrame ∧ s.linesPerFrame ≤ 313 := by
  unfold State.linesPerFrame Config.linesPerFrame
  split <;> omega

/-- A line end leaves the beam inside the frame (R152, R164). -/
theorem lineEnd_line_lt {s : State} (h : s.line.toNat < s.linesPerFrame) : (lineEnd s).line.toNat < s.linesPerFrame := by
  have := linesPerFrame_bounds s
  rw [lineEnd_line]
  split
  · exact Nat.zero_lt_of_lt h
  · rw [BitVec.toNat_ofNat]
    omega

/-- CLOCK keeps the invariant at a line end. -/
theorem inv_lineEnd {s : State} (h : s.Inv) : (updateHblank (lineEnd s.counted)).Inv := by
  obtain ⟨⟨hcpl, -⟩, hfrac, -⟩ := h.stored.paramsWf
  obtain ⟨hacc, hlen, -⟩ := lineEnd_fraction (s := s.counted) hfrac h.fracRange
  exact {
    stored := {
      paramsWf := by simpa using h.stored.paramsWf
      vramWf := by simpa using h.stored.vramWf
      cramWf := by simpa using h.stored.cramWf
      fbRising := lineEnd_fb_rising (s := s.counted) h.stored.fbRising }
    initialised := by simpa using h.initialised
    frameFlags := by simp [h.frameFlags]
    lineRange := by simpa [State.linesPerFrame] using lineEnd_line_lt (s := s.counted) h.lineRange
    cycRange := by
      have hpos : 0 < (lineEnd s.counted).lineLen := by rcases hlen with e | e <;> rw [e, counted_params] <;> omega
      simpa using hpos
    lineLenRange := by simpa using hlen
    fracRange := by simpa using hacc
    hblankIff := rfl
    smsCram := by simpa using h.smsCram }

/-- `cyc` counts without wrap below 511. -/
theorem cyc_succ_toNat {s : State} (h : s.cyc.toNat + 1 < 512) : (s.cyc + 1).toNat = s.cyc.toNat + 1 :=
  BitVec.toNat_add_of_lt h

/-- CLOCK keeps the invariant inside a line: the beam steps by one and stays short of the line's end. -/
theorem inv_clock_inside {s : State} (h : s.Inv) (hc : s.atLineEnd = false) :
    ({ s.counted with hblank := decide (s.lineLen ≤ (s.cyc + 1).toNat + s.params.hblankCycles) } : State).Inv := by
  have hlt := h.cycRange
  have hlen := h.lineLen_le
  have hne : s.cyc.toNat + 1 ≠ s.lineLen := fun e => by simp [(atLineEnd_iff s).2 e] at hc
  have hcyc : (s.cyc + 1).toNat < s.lineLen := by
    rw [cyc_succ_toNat (by omega)]
    omega
  exact {
    stored := ⟨h.stored.paramsWf, h.stored.vramWf, h.stored.cramWf, h.stored.fbRising⟩
    initialised := h.initialised, frameFlags := h.frameFlags, lineRange := h.lineRange, cycRange := hcyc
    lineLenRange := h.lineLenRange, fracRange := h.fracRange, hblankIff := rfl, smsCram := h.smsCram }

/-- What the host's operations leave alone carries the invariant's beam over; the memories and the flags are left to show. -/
theorem inv_of_hostFrame {s t : State} (h : s.Inv) (e : HostFrame s t) (hv : Memory.wf vramSize t.vram = true)
    (hc : Memory.wf cramStorage t.cram = true) (hf : t.framePending = t.status.frameIrq)
    (hs : t.gameGear = false → ∀ a, 32 ≤ a → t.cram.read a = 0) : t.Inv := by
  have hp : t.params = s.params := e.params
  exact {
    stored := ⟨hp ▸ h.stored.paramsWf, hv, hc, e.fb ▸ h.stored.fbRising⟩
    initialised := e.initialised.trans h.initialised
    frameFlags := hf
    lineRange := by simpa only [e.line, State.linesPerFrame, e.pal] using h.lineRange
    cycRange := by simpa only [e.cyc, e.lineLen] using h.cycRange
    lineLenRange := by simpa only [e.lineLen, hp] using h.lineLenRange
    fracRange := by simpa only [e.fracAcc, hp] using h.fracRange
    hblankIff := by simpa only [State.inHblank, e.hblank, e.lineLen, e.cyc, hp] using h.hblankIff
    smsCram := hs }

theorem cramSize_bounds (s : State) : 0 < s.cramSize ∧ s.cramSize ≤ cramStorage := by
  unfold State.cramSize Config.cramSize cramStorage
  split <;> decide

/-- A store into CRAM keeps its form, and on Master System the unreachable half stays 0 (R44, R64). -/
theorem cram_write_inv {s : State} (h : s.Inv) (a : Nat) (b : Byte) :
    Memory.wf cramStorage (s.cram.write (a % s.cramSize) b) = true ∧
      (s.gameGear = false → ∀ x, 32 ≤ x → (s.cram.write (a % s.cramSize) b).read x = 0) := by
  obtain ⟨hpos, hle⟩ := cramSize_bounds s
  have hlt := Nat.mod_lt a hpos
  refine ⟨Memory.wf_write b h.stored.cramWf (by omega), fun hg x hx => ?_⟩
  have h32 : s.cramSize = 32 := by simp [State.cramSize, Config.cramSize, hg]
  rw [Memory.read_write_other b (Memory.wf_rising h.stored.cramWf) (by omega)]
  exact h.smsCram hg x hx

/-- The host's operations keep the invariant. -/
theorem inv_effect_host {i : Instr} {s : State} (h : s.Inv) (hc : i ≠ .clock) (hr : ∀ g p, i ≠ .reset g p) :
    (effect i s).Inv := by
  have hframe : HostFrame s (effect i s) := effect_hostFrame hc hr
  refine inv_of_hostFrame h hframe ?vram ?cram ?flags ?sms
  case vram =>
    rcases effect_vram (s := s) hr with e | ⟨b, -, -, e⟩ <;> rw [e]
    · exact h.stored.vramWf
    · exact Memory.wf_write b h.stored.vramWf (Nat.mod_lt _ (by decide))
  case cram =>
    rcases effect_cram (s := s) hr with e | ⟨b, -, -, e⟩ <;> rw [e]
    · exact h.stored.cramWf
    · exact (cram_write_inv h _ b).1
  case flags =>
    rcases effect_flags (s := s) hc hr with ⟨hs, -, hf⟩ | ⟨-, hs, -, hf⟩ <;> rw [hs, hf]
    exact h.frameFlags
  case sms =>
    rw [hframe.gameGear]
    rcases effect_cram (s := s) hr with e | ⟨b, -, -, e⟩ <;> rw [e]
    · exact h.smsCram
    · exact (cram_write_inv h _ b).2

/-- RESET establishes the invariant where the parameters are usable (R50, R51). -/
theorem inv_afterReset {s : State} (g p : Bool) (hp : s.params.Wf) (hf : Cells.rising s.fb = true) :
    (s.afterReset g p).Inv := by
  have ⟨⟨hcpl, _⟩, hfrac, hhb, _⟩ := hp
  have hfrac : s.params.fracNum < s.params.fracDen := hfrac
  exact {
    stored := ⟨hp, Memory.wf_nil _, Memory.wf_nil _, hf⟩
    initialised := rfl
    frameFlags := rfl
    lineRange := Nat.lt_of_lt_of_le (by decide : (0 : BitVec 9).toNat < 2) (linesPerFrame_bounds (s.afterReset g p)).1
    cycRange := hcpl
    lineLenRange := .inl rfl
    fracRange := Nat.zero_lt_of_lt hfrac
    hblankIff := by simp [State.afterReset, State.inHblank, hhb]
    smsCram := fun _ a _ => Memory.read_nil a }

/-- The invariant does not speak of the waiting labels or of the last step's outputs. -/
theorem inv_input_out {s : State} (h : s.Inv) (input : List PinSample) (out : StepOutput) :
    ({ s with input := input, out := out } : State).Inv :=
  ⟨⟨h.stored.paramsWf, h.stored.vramWf, h.stored.cramWf, h.stored.fbRising⟩, h.initialised, h.frameFlags, h.lineRange,
    h.cycRange, h.lineLenRange, h.fracRange, h.hblankIff, h.smsCram⟩

/-- Every operation keeps the invariant. -/
theorem inv_exec {i : Instr} {s t : State} (h : s.Inv) (ht : exec i s = .next t) : t.Inv := by
  rcases exec_next_reset_or ht with ⟨g, p, -, rfl⟩ | ⟨hr, rfl⟩
  · exact inv_afterReset g p h.stored.paramsWf h.stored.fbRising
  · by_cases hc : i = .clock
    · subst hc
      rcases effect_clock s with ⟨-, e⟩ | ⟨hin, e⟩ <;> rw [e]
      · exact inv_lineEnd h
      · exact inv_clock_inside h hin
    · exact inv_effect_host (inv_input_out h s.input {}) hc hr

/-- Settles O58: an idle step changes only the outputs, every other step is an operation, and each of them keeps the
invariant. -/
theorem everyStepKeepsTheInvariant : Obligations.EveryStepKeepsTheInvariant := by
  intro s t h ht
  rcases step_next ht with ⟨-, rfl⟩ | ⟨p, rest, -, he⟩
  · exact inv_input_out h s.input {}
  · exact inv_exec (inv_input_out h rest s.out) he

/-! ### RESET -/

/-- The default V table of NTSC has a line for every line of the frame and is the line itself on the active display. -/
theorem vcNtsc_ok : VcTableOk 262 vcNtsc := by
  refine ⟨by simp [vcNtsc], fun l (hl : l < 192) => ?_⟩
  simp [vcNtsc, show l < 262 by omega, show l ≤ 218 by omega]

theorem vcPal_ok : VcTableOk 313 vcPal := by
  refine ⟨by simp [vcPal], fun l (hl : l < 192) => ?_⟩
  simp [vcPal, show l < 313 by omega, show l ≤ 242 by omega]

/-- The default parameters of R5 are usable. -/
theorem default_wf : Params.default.Wf :=
  ⟨by decide, by decide, by decide, ⟨by decide, by simp [Params.default, hcDefault]⟩,
    ⟨vcNtsc_ok, vcPal_ok, vcNtsc_ok, vcPal_ok⟩, by decide⟩

/-- Settles O57: RESET answers the state of R50's table, which meets the invariant whatever state it started from. -/
theorem resetEstablishesTheInvariant : Obligations.ResetEstablishesTheInvariant := by
  intro s t g p hp hf ht
  cases ht
  exact inv_afterReset g p hp hf

/-- Settles O56: the state after reset is what RESET makes of the power-on state. -/
theorem invariantHoldsAtReset : Obligations.InvariantHoldsAtReset :=
  inv_afterReset (s := State.powerOn) false false default_wf rfl

theorem afterReset_reg (s : State) (g p : Bool) (i : Fin 11) : (s.afterReset g p).reg i = 0 := by
  simp [State.reg, State.afterReset]

theorem afterReset_info (s : State) (g p : Bool) (X : Fin 256) : (s.afterReset g p).info[X.val] = {} := by
  simp [State.afterReset]

/-- Settles O11: element by element, from the table of R50. -/
theorem resetGivesEveryElementItsValue : Obligations.ResetGivesEveryElementItsValue := by
  intro s g p
  refine ⟨_, exec_reset g p s, rfl, rfl, rfl, afterReset_reg s g p, fun a => Memory.read_nil _, Memory.read_nil,
    afterReset_info s g p, ?_⟩
  exact ⟨rfl, rfl, rfl, rfl, rfl, rfl, rfl, rfl, rfl, rfl, rfl, rfl, rfl, rfl, rfl, rfl, fun _ => rfl, rfl, rfl, rfl⟩

/-! ### Who may write what -/

/-- WRITE_REG's action at one register: the one the index names, if it exists (R125). -/
theorem writeRegister_reg (s : State) (idx : BitVec 4) (v : Byte) (j : Fin 11) :
    (s.writeRegister idx v).reg j = if j.val = idx.toNat then v else s.reg j := by
  by_cases h : idx.toNat < 11
  · rw [writeRegister_existing s idx v h]
    exact (Vector.getElem_set h j.isLt).trans (if_congr eq_comm rfl rfl)
  · rw [writeRegister_missing s idx v h, if_neg (by omega)]

/-- WRITE_REG returns nothing of its own (R125). -/
theorem writeRegister_returned (s : State) (idx : BitVec 4) (v : Byte) :
    (s.writeRegister idx v).out.returned = s.out.returned := by
  by_cases h : idx.toNat < 11
  · rw [writeRegister_existing s idx v h]
  · rw [writeRegister_missing s idx v h]

/-- Settles O16: the three loads, then the register of the index if there is one. -/
theorem writeRegCommandWritesOneRegister : Obligations.WriteRegCommandWritesOneRegister := by
  intro s u idx v hi
  refine ⟨_, exec_of_initialised _ s hi, writeRegister_reg _ idx v, ?_⟩
  obtain ⟨regs, out, e⟩ := effect_cmdWriteReg_eq u idx v s.beginStep
  have hret : (effect (.cmdWriteReg u idx v) s.beginStep).out.returned = none := writeRegister_returned _ idx v
  refine ⟨?_, ?_, ?_, hret, ?_⟩ <;> rw [e]
  rfl

/-- Settles O24: each element by the lemma that says which operation writes it. -/
theorem writersOfRegistersAndMemories : Obligations.WritersOfRegistersAndMemories := by
  intro i s t ht
  rcases exec_next_reset_or ht with ⟨g, p, rfl, rfl⟩ | ⟨hr, rfl⟩
  · exact ⟨fun _ => .inr (.inr ⟨g, p, rfl⟩), fun _ => .inr ⟨g, p, rfl⟩, fun _ => .inr ⟨g, p, rfl⟩,
      fun hne => absurd rfl hne, fun _ => .inr ⟨g, p, rfl⟩⟩
  · refine ⟨fun hne => ?regs, fun hne => ?vram, fun hne => ?cram, fun hne => ?fb, fun hne => .inl ?info⟩
    case regs =>
      rcases effect_regs (s := s.beginStep) hr with e | e | e
      · exact absurd e hne
      · exact .inl e
      · exact .inr (.inl e)
    case vram =>
      rcases effect_vram (s := s.beginStep) hr with e | ⟨b, hb, hc, -⟩
      · exact absurd e hne
      · exact .inl ⟨b, hb, hc⟩
    case cram =>
      rcases effect_cram (s := s.beginStep) hr with e | ⟨b, hb, hc, -⟩
      · exact absurd e hne
      · exact .inl ⟨b, hb, hc⟩
    case fb =>
      by_contra hc
      exact hne (effect_hostFrame hc hr).fb
    case info =>
      by_contra hc
      exact hne (effect_hostFrame hc hr).info

/-- Settles O27: CLOCK's frame and the frame of the host's operations, with the H latch on its own. -/
theorem writersOfTimingStateAndStraps : Obligations.WritersOfTimingStateAndStraps := by
  intro i s t ht
  rcases exec_next_reset_or ht with ⟨g, p, rfl, rfl⟩ | ⟨hr, rfl⟩
  · exact ⟨rfl, rfl, fun hr => absurd rfl (hr g p)⟩
  · obtain ⟨hgg, hpal, hinit, hparams, hinput⟩ := effect_straps (s := s.beginStep) hr
    refine ⟨hparams, hinput, fun _ => ⟨hgg, hpal, hinit, fun hl => effect_hcLatch hl hr, fun hc => ?_⟩⟩
    have e := effect_hostFrame (s := s.beginStep) hc hr
    exact ⟨e.line, e.cyc, e.fracAcc, e.lineLen, e.hblank, e.lineCounter, e.vscrollLatched⟩

/-- The flags after CLOCK: unchanged inside a line, at a line end what the sprite pass, the line counter and line 192 add
(R35, R36). -/
theorem effect_clock_flags (s : State) :
    (s.atLineEnd = false ∧ (effect .clock s.beginStep).status = s.status ∧
        (effect .clock s.beginStep).linePending = s.linePending ∧
        (effect .clock s.beginStep).framePending = s.framePending) ∨
      (s.atLineEnd = true ∧
        (effect .clock s.beginStep).status = (lineEnd s.counted).status ∧
        (effect .clock s.beginStep).linePending =
          (s.linePending || (decide (s.line.toNat ≤ s.params.lcLastDecLine) && decide (s.lineCounter = 0#8))) ∧
        (effect .clock s.beginStep).framePending = (s.framePending || decide (s.line.toNat = activeEnd))) := by
  rcases effect_clock s with ⟨hc, e⟩ | ⟨hc, e⟩ <;> rw [e]
  · exact .inr ⟨hc, by simp⟩
  · exact .inl ⟨hc, rfl, rfl, rfl⟩

/-- The frame flag of the status after a line end (R161). -/
theorem lineEnd_status_frameIrq (s : State) :
    (lineEnd s).status.frameIrq = (s.status.frameIrq || decide (s.line.toNat = activeEnd)) := by
  rw [lineEnd_status]

/-- A line end below the active display leaves the sprite flags, an active one adds to them (R35). -/
theorem lineEnd_status_sprites (s : State) :
    ∃ overflow collision, (¬ s.line.toNat < activeEnd → overflow = false ∧ collision = false) ∧
      (lineEnd s).status.spriteOverflow = (s.status.spriteOverflow || overflow) ∧
      (lineEnd s).status.spriteCollision = (s.status.spriteCollision || collision) := by
  rw [lineEnd_status]
  split
  · exact ⟨_, _, fun h => absurd ‹_› h, rfl, rfl⟩
  · exact ⟨false, false, fun _ => ⟨rfl, rfl⟩, by simp⟩

/-- A flag that changed by an addition had something added. -/
theorem added_of_or_ne {old add : Bool} (h : (old || add) ≠ old) : add = true := by
  cases add with
  | false => exact absurd (Bool.or_false old) h
  | true => rfl

/-- Settles O25: the host's operations leave the flags alone; a line end only adds to them, each flag under its own
condition. -/
theorem flagsAreStickyUntilStatusReadOrReset : Obligations.FlagsAreStickyUntilStatusReadOrReset := by
  intro i s t ht hs hr
  obtain ⟨-, rfl⟩ := exec_next_of_ne_reset hr ht
  by_cases hc : i = .clock
  · subst hc
    rcases effect_clock_flags s with ⟨-, hst, hl, hf⟩ | ⟨hend, hst, hl, hf⟩
    · simp [hst, hl, hf]
    · obtain ⟨overflow, collision, hquiet, ho, hcol⟩ := lineEnd_status_sprites s.counted
      have hirq := lineEnd_status_frameIrq s.counted
      simp only [counted_status, counted_line] at hquiet ho hcol hirq
      rw [hst, hl, hf, ho, hcol, hirq]
      refine ⟨⟨?_, ?_, ?_, ?_, ?_⟩, fun h => ?frame, fun h => ?sprites, fun h => ?line⟩
      case frame =>
        have h192 := h.elim added_of_or_ne added_of_or_ne
        exact ⟨rfl, hend, of_decide_eq_true h192⟩
      case sprites =>
        refine ⟨rfl, hend, by_contra fun hne => ?_⟩
        obtain ⟨rfl, rfl⟩ := hquiet hne
        simp at h
      case line =>
        have hunder := added_of_or_ne h
        simp only [Bool.and_eq_true, decide_eq_true_eq] at hunder
        exact ⟨rfl, hend, hunder⟩
      all_goals exact fun h => by rw [h, Bool.true_or]
  · rcases effect_flags (s := s.beginStep) hc hr with ⟨hst, hl, hf⟩ | ⟨e, -⟩
    · simp [hst, hl, hf]
    · exact absurd e hs

/-! ### The command port -/

theorem decodeCw_readVram (a : VAddr) : decodeCw (0b00#2 ++ a) = .cmdReadVram a := by
  simp only [decodeCw, code_append_bit15, code_append_bit14, code_append_address]
  rfl

theorem decodeCw_writeVram (a : VAddr) : decodeCw (0b01#2 ++ a) = .cmdWriteVram a := by
  simp only [decodeCw, code_append_bit15, code_append_bit14, code_append_address]
  rfl

theorem decodeCw_writeReg (u : BitVec 2) (idx : BitVec 4) (v : Byte) :
    decodeCw (0b10#2 ++ (u ++ idx ++ v)) = .cmdWriteReg u idx v := by
  have h15 : (0b10#2 ++ (u ++ idx ++ v)).getLsbD 15 = true := code_append_bit15 0b10#2 (u ++ idx ++ v)
  have h14 : (0b10#2 ++ (u ++ idx ++ v)).getLsbD 14 = false := code_append_bit14 0b10#2 (u ++ idx ++ v)
  simp only [decodeCw, h15, h14, writeReg_word_unused, writeReg_word_idx, writeReg_word_data]

theorem decodeCw_writeCram (a : VAddr) : decodeCw (0b11#2 ++ a) = .cmdWriteCram a := by
  simp only [decodeCw, code_append_bit15, code_append_bit14, code_append_address]
  rfl

/-- Settles O26: the command words aside, only WriteData and GetDataPort touch the address, by one, and the read buffer. -/
theorem writersOfAddressCodeAndReadBuffer : Obligations.WritersOfAddressCodeAndReadBuffer := by
  intro i s t ht hr hw hl
  obtain ⟨-, rfl⟩ := exec_next_of_ne_reset hr ht
  cases i with
  | reset g p => exact absurd rfl (hr g p)
  | clock =>
    have e : ClockFrame s.beginStep (effect .clock s.beginStep) := clockEffect_clockFrame s.beginStep
    exact ⟨e.code, by simp, fun _ _ => ⟨e.addr, e.readBuf⟩⟩
  | writeData b =>
    obtain ⟨vram, cram, e⟩ := effect_writeData_eq b s.beginStep
    rw [e]
    exact ⟨rfl, fun _ => rfl, fun hb => absurd rfl (hb b)⟩
  | writeControl b =>
    rw [effect_writeControl_empty b (s := s.beginStep) (hl b rfl)]
    exact ⟨rfl, by simp, fun _ _ => ⟨rfl, rfl⟩⟩
  | getDataPort => exact ⟨rfl, fun _ => rfl, fun _ hne => absurd rfl hne⟩
  | cmdReadVram a => exact absurd (decodeCw_readVram a).symm (hw _)
  | cmdWriteVram a => exact absurd (decodeCw_writeVram a).symm (hw _)
  | cmdWriteReg u idx v => exact absurd (decodeCw_writeReg u idx v).symm (hw _)
  | cmdWriteCram a => exact absurd (decodeCw_writeCram a).symm (hw _)
  | _ => exact ⟨rfl, by simp, fun _ _ => ⟨rfl, rfl⟩⟩

/-- The per-code action leaves the latch as the loads of the command word left it (R123). -/
theorem commandAction_latch (s : State) : s.commandAction.latch = s.latch := by
  obtain ⟨regs, out, addr, readBuf, e⟩ := commandAction_frame s
  rw [e]

/-- Settles O28: a first control byte fills the latch, six operations leave it alone, and every other operation empties it. -/
theorem latchIsHalfFullOnlyBetweenTheTwoBytes : Obligations.LatchIsHalfFullOnlyBetweenTheTwoBytes := by
  intro i s t lo ht hlo
  rcases exec_next_reset_or ht with ⟨g, p, -, rfl⟩ | ⟨-, rfl⟩
  · cases hlo
  · cases i with
    | clock =>
      have e : ClockFrame s.beginStep (effect .clock s.beginStep) := clockEffect_clockFrame s.beginStep
      exact .inr ⟨e.latch.symm.trans hlo, by simp⟩
    | latchH | getVCounter | getHCounter | reservedW2 | reservedW3 => exact .inr ⟨hlo, by simp⟩
    | writeControl b =>
      cases hl : s.latch with
      | empty =>
        rw [effect_writeControl_empty b (s := s.beginStep) hl] at hlo
        cases hlo
        exact .inl ⟨rfl, rfl⟩
      | halfFull first => simp [effect, hl, commandAction_latch] at hlo
    | cmdWriteReg u idx v =>
      obtain ⟨regs, out, e⟩ := effect_cmdWriteReg_eq u idx v s.beginStep
      rw [e] at hlo
      cases hlo
    | _ => cases hlo

/-! ### The line's timing -/

/-- Settles O35: CLOCK at a line end gives the next line the length of the account of R153. -/
theorem nextLineLengthKeepsTheFraction : Obligations.NextLineLengthKeepsTheFraction := by
  intro s hi hn ha hc
  exact ⟨_, exec_clock_lineEnd s hi hc, lineEnd_fraction (s := s.counted) hn ha⟩

/-- Settles O36: the last act of CLOCK sets `hblank`, whatever the step did before it. -/
theorem hblankFollowsTheBeam : Obligations.HblankFollowsTheBeam := by
  intro s hi
  refine ⟨_, exec_of_initialised .clock s hi, ?_⟩
  have key : (effect .clock s.beginStep).hblank = (effect .clock s.beginStep).inHblank := clockEffect_hblank s.beginStep
  rw [key, State.inHblank, decide_eq_true_eq]
  omega

/-- One CLOCK inside a line moves the beam by one and changes `cyc`, `hblank` and the outputs alone (R150). -/
theorem exec_clock_inside {s : State} (hi : s.initialised = true) (hlen : s.lineLen ≤ 512)
    (hc : s.cyc.toNat + 1 < s.lineLen) :
    ∃ t, exec .clock s = .next t ∧ t.cyc.toNat = s.cyc.toNat + 1 ∧
      t = { s with cyc := t.cyc, hblank := t.hblank, out := {} } := by
  have hin : s.beginStep.atLineEnd = false := by
    rw [beginStep_atLineEnd, State.atLineEnd, beq_eq_false_iff_ne]
    omega
  have e : effect .clock s.beginStep = _ := clockEffect_inside s.beginStep hin
  refine ⟨_, exec_of_initialised _ s hi, ?_⟩
  rw [e]
  exact ⟨cyc_succ_toNat (s := s) (by omega), rfl⟩

/-- Tick(n) inside a line moves the beam by n, changes `cyc`, `hblank` and the outputs alone, and returns false (R166). -/
theorem tick_inside {s : State} {n : Nat} (hi : s.initialised = true) (hlen : s.lineLen ≤ 512)
    (hc : s.cyc.toNat + n < s.lineLen) :
    ∃ t, tick n s = .next (t, false) ∧ t.cyc.toNat = s.cyc.toNat + n ∧ t.out = (if n = 0 then s.out else {}) ∧
      t = { s with cyc := t.cyc, hblank := t.hblank, out := t.out } := by
  induction n generalizing s with
  | zero => exact ⟨s, rfl, rfl, rfl, rfl⟩
  | succ n ih =>
    obtain ⟨m, hm, hmcyc, hmframe⟩ := exec_clock_inside hi hlen (by omega)
    have hmi : m.initialised = true := by rw [hmframe]; exact hi
    have hmlen : m.lineLen = s.lineLen := by rw [hmframe]
    have hmout : m.out = {} := by rw [hmframe]
    obtain ⟨t, ht, htcyc, htout, htframe⟩ := ih hmi (by omega) (by omega)
    refine ⟨t, ?_, by omega, by simp [htout, hmout], ?_⟩
    · simp [tick, hm, ht, hmout]
    · rw [hmframe] at htframe
      exact htframe

/-- Settles O39: RESET leaves the beam at the start of line 0 and the line counter at 0; CPL - 1 ticks stay in the line, and
the next CLOCK ends it with an underflow. -/
theorem firstLineAfterResetUnderflows : Obligations.FirstLineAfterResetUnderflows := by
  intro s g p hp
  have ⟨⟨hpos, hlt⟩, _⟩ := hp
  obtain ⟨t, ht, htcyc, -, htframe⟩ := tick_inside (s := s.afterReset g p) (n := s.params.cpl - 1) rfl
    (by simp only [State.afterReset]; omega) (by simp [State.afterReset]; omega)
  have hcyc : t.cyc.toNat = s.params.cpl - 1 := htcyc.trans (Nat.zero_add _)
  have hti : t.initialised = true := by rw [htframe]; rfl
  have htlen : t.lineLen = s.params.cpl := by rw [htframe]; rfl
  have htline : t.line = 0 := by rw [htframe]; rfl
  have htcounter : t.lineCounter = 0 := by rw [htframe]; rfl
  have hton : t.lineEnable = false := by rw [htframe]; simp [State.lineEnable, State.reg, State.afterReset]
  have hframes : 0 ≠ t.linesPerFrame - 1 := by have := linesPerFrame_bounds t; omega
  refine ⟨_, t, _, exec_reset g p s, ht, by rw [htframe]; rfl, htline, hcyc,
    exec_clock_lineEnd t hti (by omega), ?_, ?_, ?_, ?_⟩
  · simp [htline, htcounter]
  · simp [htline, hframes]
  · simp
  · simp [htline, hton, hframes]

end Sys2Proof.Machine
end

section
/-! PROOFS. The memories and what is formed from them: the data port's read stream, the tables' addresses in VRAM, the entries
the output stage selects, the closed form of each pass, and the picture CLOCK leaves at an active line end. -/

namespace Sys2Proof.Machine

open Sys2Proof.Config

/-! ### The read stream of the data port (R74, R124, R129) -/

/-- Data-port reads with the byte of address k in the buffer and `addr` one ahead return the bytes from k on, each read leaving
the same situation at k + 1. -/
theorem runInstrs_getDataPort (n : Nat) {s : State} {k : Nat} (hi : s.initialised = true) (hb : s.readBuf = s.vramByte k)
    (ha : s.addr.toNat = (k + 1) % vramSize) :
    ∃ t outs, runInstrs (List.replicate n .getDataPort) s = .next (t, outs) ∧
      outs.map (·.returned) = (List.range n).map fun j => some (s.vramByte (k + j)) := by
  induction n generalizing s k with
  | zero => exact ⟨s, [], rfl, rfl⟩
  | succ n ih =>
    have hbuf : s.vramByte s.addr.toNat = s.vramByte (k + 1) := by rw [State.vramByte, State.vramByte, ha, Nat.mod_mod]
    have haddr : (s.addr + 1).toNat = (k + 1 + 1) % vramSize := by simp [BitVec.toNat_add, ha]
    obtain ⟨t, outs, ht, houts⟩ := ih (s := effect .getDataPort s.beginStep) (k := k + 1) hi hbuf haddr
    refine ⟨t, _, runInstrs_cons _ _ _ _ _ _ (exec_of_initialised .getDataPort s hi) ht, ?_⟩
    have hfirst : (effect .getDataPort s.beginStep).out.returned = some (s.vramByte k) := congrArg some hb
    have hrest (j : Nat) : (effect .getDataPort s.beginStep).vramByte (k + 1 + j) = s.vramByte (k + (j + 1)) := by
      rw [Nat.add_right_comm]
      rfl
    simp [List.range_succ_eq_map, hfirst, houts, hrest]

/-- Settles O54: VRAMR pre-fetches the first byte and steps the address, which is the situation every read finds and leaves. -/
theorem readStreamReturnsConsecutiveBytes : Obligations.ReadStreamReturnsConsecutiveBytes := by
  intro s a n hi
  obtain ⟨t, outs, ht, houts⟩ := runInstrs_getDataPort n (s := effect (.cmdReadVram a) s.beginStep) (k := a.toNat) hi rfl
    (BitVec.toNat_add a 1)
  exact ⟨t, _, runInstrs_cons _ _ _ _ _ _ (exec_of_initialised (.cmdReadVram a) s hi) ht, houts⟩

/-! ### The rasterizers' tables (R64, R66) -/

/-- A shifted masked field is at most its shifted mask: the highest base address of a table. -/
theorem maskedField_shift_le (v mask k : Nat) : (v &&& mask) <<< k ≤ mask <<< k := by
  rw [Nat.shiftLeft_eq, Nat.shiftLeft_eq]
  exact Nat.mul_le_mul_right _ Nat.and_le_right

theorem nameBase_le (s : State) : s.nameBase ≤ 0x3800 := maskedField_shift_le _ 0x0E 10

theorem satBase_le (s : State) : s.satBase ≤ 0x3F00 := maskedField_shift_le _ 0x7E 7

theorem spritePatternBase_le (s : State) : s.spritePatternBase ≤ 0x2000 := maskedField_shift_le _ 0x04 11

/-- The name-table row is one of the 32 that R66 gives room for. -/
theorem bgRow_fst_lt (s : State) (L : Nat) (h : s.params.RowsOk) : (s.bgRow L).1 < 32 := by
  have hrows : 0 < s.bgRows ∧ s.bgRows ≤ 32 := by
    unfold State.bgRows
    split
    · exact h.1
    · exact h.2
  have hy : s.bgY L < s.bgRows * 8 := Nat.mod_lt _ (by omega)
  show s.bgY L / 8 < 32
  omega

theorem bgRow_snd_lt (s : State) (L : Nat) : (s.bgRow L).2 < 8 := Nat.mod_lt _ (by decide)

/-- The rows of a sprite's pattern, a tall one's first pattern being even, lie in the 512 patterns' half that the base selects. -/
theorem spritePattern_offset_le (s : State) (n : Byte) (r : Nat) (hr : r < s.spriteHeight) :
    (if s.tallSprites then n &&& 0xFE else n).toNat * 32 + r * 4 ≤ 0x1FFC := by
  unfold State.spriteHeight at hr
  cases htall : s.tallSprites
  · simp only [htall, Bool.false_eq_true, if_false] at hr ⊢
    have := n.isLt
    omega
  · simp only [htall, if_true] at hr ⊢
    have : (n &&& 0xFE).toNat ≤ 0xFE := by rw [BitVec.toNat_and]; exact Nat.and_le_right
    omega

/-- Settles O43: the highest base of each table plus its highest offset is at most 0x3FFF. -/
theorem rasterTablesStayInsideVram : Obligations.RasterTablesStayInsideVram := by
  intro s L hp
  obtain ⟨-, -, -, -, -, hrows⟩ := hp
  refine ⟨fun Cx hC => ?_, fun e vf => ?_, fun i hi => ?_, fun n r hr => ?_⟩
  · have := nameBase_le s
    have := bgRow_fst_lt s L hrows
    omega
  · have hpat : (decodeEntry e).pat < 512 := (e.extractLsb' 0 9).isLt
    have := bgRow_snd_lt s L
    split <;> omega
  · have := satBase_le s
    omega
  · have := spritePatternBase_le s
    have := spritePattern_offset_le s n r hr
    omega

/-! ### The entry a slot selects (R231, R232) -/

section

variable (s : State) {slot : Slot}

/-- A sprite that is not hidden selects its entry of the sprite half (R231). -/
theorem selectEntry_sprite (h : slot.spr = true) (hp : slot.bgPrio = false ∨ slot.bgIdx = 0) :
    s.selectEntry slot = 16 + slot.sprIdx.toNat := by
  have : (slot.spr && (!slot.bgPrio || slot.bgIdx == 0)) = true := by simpa [h] using hp
  rw [State.selectEntry, if_pos this]

/-- No sprite and background index 0: the backdrop (R231, R232). -/
theorem selectEntry_backdrop (h : slot.spr = false) (hz : slot.bgIdx = 0) :
    s.selectEntry slot = 16 + ((s.reg 7).toNat &&& 0x0F) := by
  rw [State.selectEntry, if_neg (by simp [h]), if_pos hz]
  rfl

/-- No sprite, or one the background's priority hides: the background's entry (R231). -/
theorem selectEntry_background (h : slot.spr = false ∨ slot.bgPrio = true) (hz : slot.bgIdx ≠ 0) :
    s.selectEntry slot = (if slot.bgBank = true then 16 else 0) + slot.bgIdx.toNat := by
  have : ¬ (slot.spr && (!slot.bgPrio || slot.bgIdx == 0)) = true := by
    rcases h with h | h
    · simp [h]
    · simpa [h] using fun _ => hz
  rw [State.selectEntry, if_neg this, if_neg hz]
  cases slot.bgBank <;> rfl

/-- The palette has 32 entries (R67). -/
theorem selectEntry_lt (slot : Slot) : s.selectEntry slot < 32 := by
  have hspr := slot.sprIdx.isLt
  have hbg := slot.bgIdx.isLt
  have hback : s.backdropIndex ≤ 0x0F := Nat.and_le_right
  have hbank := Bool.toNat_le slot.bgBank
  simp only [State.selectEntry, State.backdrop]
  split
  · omega
  · split <;> omega

end

/-! ### The slot a line shows (R218) -/

section

variable {s : State} {L X i : Nat}

theorem shownSlot_of_owner (h : s.spriteOwner L X = some i) :
    s.shownSlot L X = { s.bgSlotAt L X with spr := true, sprIdx := s.spriteIndexAt L i X } := by
  rw [State.shownSlot, h]

theorem shownSlot_of_no_owner (h : s.spriteOwner L X = none) : s.shownSlot L X = s.bgSlotAt L X := by
  rw [State.shownSlot, h]

/-- A sprite never changes the background's fields (R218). -/
theorem shownSlot_background (s : State) (L X : Nat) :
    (s.shownSlot L X).bgIdx = (s.bgSlotAt L X).bgIdx ∧ (s.shownSlot L X).bgPrio = (s.bgSlotAt L X).bgPrio ∧
      (s.shownSlot L X).bgBank = (s.bgSlotAt L X).bgBank := by
  cases h : s.spriteOwner L X with
  | none => rw [shownSlot_of_no_owner h]; exact ⟨rfl, rfl, rfl⟩
  | some i => rw [shownSlot_of_owner h]; exact ⟨rfl, rfl, rfl⟩

theorem shownSlot_spr_of_no_owner (h : s.spriteOwner L X = none) : (s.shownSlot L X).spr = false := by
  rw [shownSlot_of_no_owner h, bgSlotAt_spr]

/-- The owner's pixel is not transparent (R218). -/
theorem spriteOwner_index_ne_zero (h : s.spriteOwner L X = some i) : s.spriteIndexAt L i X ≠ 0 := by
  simpa using List.find?_some h

end

/-- Settles O50: R231's table for any slot, then for the shown slot, whose sprite fields are its owner's. -/
theorem shownSlotsSelectLegalEntries : Obligations.ShownSlotsSelectLegalEntries := by
  intro s
  refine ⟨fun slot => ⟨selectEntry_sprite s, selectEntry_backdrop s, selectEntry_background s⟩, fun L X => ?_⟩
  obtain ⟨hidx, hprio, hbank⟩ := shownSlot_background s L X.val
  refine ⟨selectEntry_lt s _, fun i ho hp => ?_, fun ho hz => ?_, fun hh hz => ?_⟩
  · have e : s.selectEntry (s.shownSlot L X.val) = 16 + (s.spriteIndexAt L i X.val).toNat := by
      rw [shownSlot_of_owner ho]
      exact selectEntry_sprite s rfl hp
    have hpos : (s.spriteIndexAt L i X.val).toNat ≠ 0 := fun h =>
      spriteOwner_index_ne_zero ho (BitVec.eq_of_toNat_eq h)
    have := (s.spriteIndexAt L i X.val).isLt
    exact ⟨e, by omega, by omega⟩
  · exact selectEntry_backdrop s (shownSlot_spr_of_no_owner ho) (hidx.trans hz)
  · rw [selectEntry_background s (hh.imp shownSlot_spr_of_no_owner hprio.trans) (hidx ▸ hz), hidx, hbank]

/-! ### The background pass in closed form (R190, R197, R198) -/

/-- The first n columns of the background loop: a slot their pixels reach holds the name-table pixel `(X - Hs) mod 256`, every
other slot is as before. -/
theorem bgColumns_get (s : State) (R f hs n : Nat) (info : Vector Slot 256) (X : Fin 256) (hn : n ≤ 32) (hhs : hs < 256) :
    ((List.range n).foldl (s.bgColumn R f hs) info)[X.val] =
      if (X.val + 256 - hs % 8) % 256 / 8 < n then
        let col := (X.val + 256 - hs) % 256
        let e := s.nameEntry R (col / 8)
        bgSlot e (s.patternRow e.pat f e.vf) (col % 8)
      else info[X.val] := by
  induction n with
  | zero => rfl
  | succ n ih =>
    rw [List.range_succ, List.foldl_append, List.foldl_cons, List.foldl_nil, bgColumn_get _ _ _ _ _ _ _ (by omega),
      ih (by omega)]
    by_cases hlast : (X.val + 256 - hs % 8) % 256 / 8 = n
    · have hcol : effectiveColumn n hs = (X.val + 256 - hs) % 256 / 8 := by unfold effectiveColumn; omega
      have hpx : (X.val + 256 - hs % 8) % 256 % 8 = (X.val + 256 - hs) % 256 % 8 := by omega
      rw [if_pos hlast, if_pos (by omega), hcol, hpx]
    · rw [if_neg hlast]
      exact if_congr (by omega) rfl rfl

/-- The left mask blanks slots 0..7 and no other (R198). -/
theorem leftMaskInfo_get (info : Vector Slot 256) (X : Fin 256) :
    (leftMaskInfo info)[X.val] = if X.val < 8 then {} else info[X.val] := by
  have key : ∀ n ≤ 8, ((List.range n).foldl (fun info Y => putSlot info (Fin.ofNat 256 Y) {}) info)[X.val] =
      if X.val < n then {} else info[X.val] := by
    intro n
    induction n with
    | zero => intro _; rfl
    | succ n ih =>
      intro hn
      rw [List.range_succ, List.foldl_append, List.foldl_cons, List.foldl_nil, putSlot_get, ih (by omega)]
      have hX : X = Fin.ofNat 256 n ↔ X.val = n := by
        rw [Fin.ext_iff, Fin.val_ofNat, Nat.mod_eq_of_lt (by omega)]
      by_cases h : X.val = n
      · rw [if_pos (hX.2 h), if_pos (by omega)]
      · rw [if_neg (mt hX.1 h)]
        exact if_congr (by omega) rfl rfl
  exact key 8 (le_refl 8)

/-- The slot the background pass leaves (R190, R197, R198). -/
theorem bgPass_get (s : State) (L : Nat) (X : Fin 256) : (bgPass L s).info[X.val] = s.bgSlotAt L X.val := by
  have hhs : s.bgHScroll L < 256 := by
    unfold State.bgHScroll
    split
    · decide
    · exact (s.reg 8).isLt
  have hX := X.isLt
  have hpainted := bgColumns_get s (s.bgRow L).1 (s.bgRow L).2 (s.bgHScroll L) 32 s.info X (le_refl 32) hhs
  rw [if_pos (by omega)] at hpainted
  show (s.bgInfo L)[X.val] = _
  unfold State.bgInfo State.bgSlotAt
  cases hm : s.leftMask
  · simp only [Bool.false_eq_true, if_false, false_and]
    exact hpainted
  · simp only [if_true, leftMaskInfo_get, true_and, hpainted]
    rfl

/-! ### The sprite pass in closed form (R212 to R219) -/

/-- The slot the sprite pass leaves: a free one goes to its owner (R217, R218). -/
theorem spritePass_get (s : State) (L : Nat) (X : Fin 256) : (spritePass L s).info[X.val] =
    if s.info[X.val].spr = true then s.info[X.val]
    else match s.spriteOwner L X.val with
      | none => s.info[X.val]
      | some i => { s.info[X.val] with spr := true, sprIdx := s.spriteIndexAt L i X.val } := by
  show (s.spriteResult L).info[X.val] = _
  simp only [spriteResult_eq]
  exact drawSprites_get s L (s.contributors L) X _

/-- The overflow flag after the sprite pass (R214). -/
theorem spritePass_overflow (s : State) (L : Nat) : (spritePass L s).status.spriteOverflow =
    (s.status.spriteOverflow || decide (8 < (s.coveringSprites L).length)) := by
  simp only [spritePass_status, Status.withSprites, spriteResult_eq]

/-- The collision flag after the sprite pass (R219). -/
theorem spritePass_collision (s : State) (L : Nat) : (spritePass L s).status.spriteCollision = true ↔
    s.status.spriteCollision = true ∨
      ∃ i ∈ s.contributors L, ∃ X : Fin 256, s.spriteIndexAt L i X.val ≠ 0 ∧ s.info[X.val].bgIdx ≠ 0 := by
  have h := drawSprites_collision s L (s.contributors L) { info := s.info, overflow := false, collision := false }
  simp only [Bool.false_eq_true, false_or] at h
  simp only [spritePass_status, Status.withSprites, spriteResult_eq, Bool.or_eq_true, h]

/-! ### The output pass in closed form (R230, R236) -/

/-- On Master System every pixel is written (R236). -/
theorem fbIndex_sms {s : State} (hg : s.gameGear = false) (L X : Nat) : s.fbIndex L X = some (L * 256 + X) := by
  simp [State.fbIndex, hg, fbWidth]

/-- On Game Gear the pixels of the window are written (R236). -/
theorem fbIndex_gg {s : State} (hg : s.gameGear = true) (L X : Nat) : s.fbIndex L X =
    if 24 ≤ L ∧ L ≤ 167 ∧ 48 ≤ X ∧ X ≤ 207 then some ((L - 24) * 160 + (X - 48)) else none := by
  simp [State.fbIndex, hg, fbWidth]

/-- No two columns of a line share a frame-buffer word (R236). -/
theorem fbIndex_injective (s : State) (L : Nat) {X Y j : Nat} (hX : s.fbIndex L X = some j) (hY : s.fbIndex L Y = some j) :
    X = Y := by
  cases hg : s.gameGear
  · rw [fbIndex_sms hg, Option.some.injEq] at hX hY
    omega
  · rw [fbIndex_gg hg, Option.ite_none_right_eq_some, Option.some.injEq] at hX hY
    omega

/-- The words the output pass writes and those it keeps (R230, R236). -/
theorem outputPass_fbWord (s : State) (L j : Nat) :
    (∀ X : Fin 256, s.fbIndex L X.val = some j → (outputPass L s).fbWord j = some (s.pixelColour X)) ∧
    ((∀ X < 256, s.fbIndex L X ≠ some j) → (outputPass L s).fbWord j = s.fbWord j) := by
  obtain ⟨hwritten, hkept⟩ := emit_fold s.fb (s.fbIndex L) (fun X => s.pixelColour (Fin.ofNat 256 X)) 256
    fun _ _ _ _ _ hX hY => fbIndex_injective s L hX hY
  rw [State.fbWord, outputPass_fb]
  refine ⟨fun X hX => ?_, hkept j⟩
  have hw := hwritten X.val X.isLt j hX
  rw [Fin.ofNat_val_eq_self] at hw
  exact hw

/-! ### The three passes of a line (R155) -/

/-- The colour the slot of column X shows on line L (R230, R231). -/
def State.shownColour (s : State) (L X : Nat) : Rgba := s.colour (s.selectEntry (s.shownSlot L X))

section

variable (s : State) (L : Nat)

/-- The info buffer after the three passes is the closed form of the first two. -/
theorem renderLine_slot (X : Fin 256) : (renderLine L s).info[X.val] = s.shownSlot L X.val := by
  rw [State.shownSlot]
  simp only [renderLine_info, spritePass_get, bgPass_get, bgSlotAt_spr, Bool.false_eq_true, if_false]
  rfl

theorem renderLine_overflow : (renderLine L s).status.spriteOverflow = true ↔
    s.status.spriteOverflow = true ∨ 8 < (s.coveringSprites L).length := by
  rw [renderLine_status, spritePass_overflow, Bool.or_eq_true, decide_eq_true_eq]
  rfl

/-- The background the sprites meet is the one the first pass has just left (R219). -/
theorem renderLine_collision : (renderLine L s).status.spriteCollision = true ↔
    s.status.spriteCollision = true ∨
      ∃ i ∈ s.contributors L, ∃ X : Fin 256, s.spriteIndexAt L i X.val ≠ 0 ∧ (s.bgSlotAt L X.val).bgIdx ≠ 0 := by
  rw [renderLine_status, spritePass_collision]
  simp only [bgPass_get]
  rfl

/-- The words the three passes write, by the closed form of the slots, and those they keep. -/
theorem renderLine_fbWord (j : Nat) :
    (∀ X : Fin 256, s.fbIndex L X.val = some j → (renderLine L s).fbWord j = some (s.shownColour L X.val)) ∧
    ((∀ X < 256, s.fbIndex L X ≠ some j) → (renderLine L s).fbWord j = s.fbWord j) := by
  obtain ⟨hwritten, hkept⟩ := outputPass_fbWord (spritePass L (bgPass L s)) L j
  refine ⟨fun X hX => (hwritten X hX).trans ?_, hkept⟩
  have hslot := renderLine_slot s L X
  rw [renderLine_info] at hslot
  rw [State.pixelColour, hslot]
  rfl

end

/-! ### The picture after CLOCK (R151, R154)

The closed forms read neither `cyc` nor the outputs, so they say the same of the state a line end starts from. -/

section

variable (s : State)

@[simp] theorem counted_bgSlotAt : s.counted.bgSlotAt = s.bgSlotAt := by rfl
@[simp] theorem counted_spriteIndexAt : s.counted.spriteIndexAt = s.spriteIndexAt := by rfl
@[simp] theorem counted_spriteOwner : s.counted.spriteOwner = s.spriteOwner := by rfl
@[simp] theorem counted_contributors : s.counted.contributors = s.contributors := by rfl
@[simp] theorem counted_coveringSprites : s.counted.coveringSprites = s.coveringSprites := by rfl
@[simp] theorem counted_colour : s.counted.colour = s.colour := by rfl
@[simp] theorem counted_selectEntry : s.counted.selectEntry = s.selectEntry := by rfl
@[simp] theorem counted_fbIndex : s.counted.fbIndex = s.fbIndex := by rfl
@[simp] theorem counted_fbWord : s.counted.fbWord = s.fbWord := by rfl
@[simp] theorem counted_shownSlot (L X : Nat) : s.counted.shownSlot L X = s.shownSlot L X := by simp [State.shownSlot]
@[simp] theorem counted_shownColour (L X : Nat) : s.counted.shownColour L X = s.shownColour L X := by
  simp [State.shownColour]

end

/-- CLOCK at the end of an active line leaves the picture of the three passes (R151, R154). -/
theorem exec_clock_activeLine {s : State} (hi : s.initialised = true) (hc : s.cyc.toNat + 1 = s.lineLen)
    (hL : s.line.toNat < 192) :
    ∃ t, exec .clock s = .next t ∧ t.info = (renderLine s.line.toNat s.counted).info ∧
      (∀ j, t.fbWord j = (renderLine s.line.toNat s.counted).fbWord j) ∧
      t.status.spriteOverflow = (renderLine s.line.toNat s.counted).status.spriteOverflow ∧
      t.status.spriteCollision = (renderLine s.line.toNat s.counted).status.spriteCollision := by
  have hactive : s.counted.line.toNat < activeEnd := hL
  refine ⟨_, exec_clock_lineEnd s hi hc, ?_, fun j => ?_, ?_, ?_⟩
  · show (lineEnd s.counted).info = _
    rw [lineEnd_info, if_pos hactive, renderLine_info, counted_line]
  · show Cells.lookup (lineEnd s.counted).fb j = _
    rw [lineEnd_fb, if_pos hactive, counted_line, State.fbWord]
  · show (lineEnd s.counted).status.spriteOverflow = _
    rw [lineEnd_status, if_pos hactive, renderLine_status, counted_line]
  · show (lineEnd s.counted).status.spriteCollision = _
    rw [lineEnd_status, if_pos hactive, renderLine_status, counted_line]

/-- Settles O48: CLOCK leaves what the three passes of the line leave, and that in closed form; the words by the strap and the
window. -/
theorem lineEndShowsEveryPixelOfTheLine : Obligations.LineEndShowsEveryPixelOfTheLine := by
  intro s hi hc hL
  obtain ⟨t, ht, hinfo, hfb, hover, hcoll⟩ := exec_clock_activeLine hi hc hL
  have hword (j : Nat) : (∀ X : Fin 256, s.fbIndex s.line.toNat X.val = some j →
      t.fbWord j = some (s.shownColour s.line.toNat X.val)) ∧
      ((∀ X < 256, s.fbIndex s.line.toNat X ≠ some j) → t.fbWord j = s.fbWord j) := by
    simpa [hfb j] using renderLine_fbWord s.counted s.line.toNat j
  refine ⟨t, ht, fun X => ?_, ?_, ?_, fun hg => ⟨fun X => ?_, fun j hj => ?_⟩,
    fun hg h24 h167 => ⟨fun X h48 h207 => ?_, fun j hj => ?_⟩, fun hg hout j => ?_⟩
  · simp only [hinfo, renderLine_slot, counted_shownSlot]
  · simp only [hover, renderLine_overflow, counted_status, counted_coveringSprites]
  · simp only [hcoll, renderLine_collision, counted_status, counted_contributors, counted_spriteIndexAt, counted_bgSlotAt]
  · exact (hword _).1 X (fbIndex_sms hg _ _)
  · refine (hword j).2 fun X hX e => ?_
    rw [fbIndex_sms hg, Option.some.injEq] at e
    omega
  · exact (hword _).1 X (by rw [fbIndex_gg hg, if_pos ⟨h24, h167, h48, h207⟩])
  · refine (hword j).2 fun X hX e => ?_
    rw [fbIndex_gg hg, Option.ite_none_right_eq_some, Option.some.injEq] at e
    omega
  · refine (hword j).2 fun X hX e => ?_
    rw [fbIndex_gg hg, Option.ite_none_right_eq_some] at e
    omega

end Sys2Proof.Machine
end

section
/-! PROOFS. The statements of spec/30_encoding.md: the two formats and their rows, which operation a step runs, the two control
bytes, and what each port operation does. -/

namespace Sys2Proof.Machine

open Sys2Proof.Config

/-! ### The four kinds of command word (R92, R93) -/

/-- A word is its code in front of its address (R93). -/
theorem code_address_join (w : BitVec 16) : w.extractLsb' 14 2 ++ w.extractLsb' 0 14 = w := by
  apply BitVec.eq_of_getLsbD_eq
  intro j hj
  simp only [BitVec.getLsbD_append, BitVec.getLsbD_extractLsb']
  by_cases h : j < 14
  · simp [h]
  · simp [h, show 14 + (j - 14) = j by omega, show j - 14 < 2 by omega]

theorem code_values (c : BitVec 2) : c = 0b00#2 ∨ c = 0b01#2 ∨ c = 0b10#2 ∨ c = 0b11#2 := by
  revert c
  decide

/-- Every 14 bits are the fields of a WRITE_REG word (R93). -/
theorem writeReg_fields_exist (a : VAddr) : ∃ (u : BitVec 2) (idx : BitVec 4) (v : Byte), u ++ idx ++ v = a := by
  have h := writeReg_fields_join (0b00#2 ++ a)
  rw [code_append_address] at h
  exact ⟨_, _, _, h⟩

/-- All that a command word can be: one of the four codes of R92 with the fields of its row, and what it decodes to (R93). -/
theorem commandWord_cases (w : BitVec 16) :
    (∃ a : VAddr, w = 0b00#2 ++ a ∧ decodeCw w = .cmdReadVram a) ∨
      (∃ a : VAddr, w = 0b01#2 ++ a ∧ decodeCw w = .cmdWriteVram a) ∨
      (∃ (u : BitVec 2) (idx : BitVec 4) (v : Byte), w = 0b10#2 ++ (u ++ idx ++ v) ∧ decodeCw w = .cmdWriteReg u idx v) ∨
      ∃ a : VAddr, w = 0b11#2 ++ a ∧ decodeCw w = .cmdWriteCram a := by
  obtain ⟨c, a, rfl⟩ : ∃ (c : BitVec 2) (a : VAddr), w = c ++ a := ⟨_, _, (code_address_join w).symm⟩
  rcases code_values c with rfl | rfl | rfl | rfl
  · exact .inl ⟨a, rfl, decodeCw_readVram a⟩
  · exact .inr (.inl ⟨a, rfl, decodeCw_writeVram a⟩)
  · obtain ⟨u, idx, v, rfl⟩ := writeReg_fields_exist a
    exact .inr (.inr (.inl ⟨u, idx, v, rfl, decodeCw_writeReg u idx v⟩))
  · exact .inr (.inr (.inr ⟨a, rfl, decodeCw_writeCram a⟩))

theorem decodeCw_ne_reset (w : BitVec 16) (g p : Bool) : decodeCw w ≠ .reset g p := by
  rcases commandWord_cases w with ⟨_, -, h⟩ | ⟨_, -, h⟩ | ⟨_, _, _, -, h⟩ | ⟨_, -, h⟩ <;> simp [h]

theorem decodeCw_ne_writeControl (w : BitVec 16) (b : Byte) : decodeCw w ≠ .writeControl b := by
  rcases commandWord_cases w with ⟨_, -, h⟩ | ⟨_, -, h⟩ | ⟨_, _, _, -, h⟩ | ⟨_, -, h⟩ <;> simp [h]

/-! ### Decode and encode agree (R90, R92, R93, R109) -/

/-- Settles O1: a label is read back from its bits, a command word by the lemma of its code. -/
theorem decodeOfEncodeIsTheInstruction : Obligations.DecodeOfEncodeIsTheInstruction := by
  intro i _
  cases i with
  | cmdReadVram a => exact decodeCw_readVram a
  | cmdWriteVram a => exact decodeCw_writeVram a
  | cmdWriteReg u idx v => exact decodeCw_writeReg u idx v
  | cmdWriteCram a => exact decodeCw_writeCram a
  | _ => simp [encode, decode, decodeEv]

/-- Settles O3: for each kind of command word the encoder puts the same code in front of the same fields. -/
theorem commandWordKeepsEveryBit : Obligations.CommandWordKeepsEveryBit := by
  intro w
  rcases commandWord_cases w with ⟨a, hw, h⟩ | ⟨a, hw, h⟩ | ⟨u, idx, v, hw, h⟩ | ⟨a, hw, h⟩ <;> rw [h, encode, ← hw]

/-! ### Every value fits exactly one row (R90, R92, R93) -/

/-- Which EV row an operation is of depends on the label alone, not on the pins sampled with it (R90). -/
theorem mnemonic_decodeEv_label (p : PinSample) : mnemonic (decodeEv p) = mnemonic (decodeEv { ev := p.ev }) := by
  obtain ⟨ev, d, g, pal⟩ := p
  simp only [decodeEv]
  split
  · rfl
  · split
    · rfl
    · split
      · rfl
      · split <;> rfl

/-- The 64 labels, one by one (R90: "Every 6-bit value decodes to exactly one row"). -/
theorem evRows_fitting (v : BitVec 6) : (evRows.filter (·.fits v)).map (·.mnemonic) = [mnemonic (decodeEv { ev := v })] := by
  revert v
  decide

/-- The CW rows look at the code only (R93). -/
theorem cwRows_filter_code (c : BitVec 2) (a : VAddr) :
    cwRows.filter (·.fits (c ++ a)) = cwRows.filter (·.fits (c ++ 0#14)) := by
  refine List.filter_congr fun r hr => ?_
  have hmask : r.mask = 0xC000#16 := by
    revert r
    decide
  rw [Row.fits, Row.fits, hmask, Laws.MatchesRow.code_mask, Laws.MatchesRow.code_mask]

/-- Settles O2: the labels by the table of 64, the command words by their code. -/
theorem everyValueFitsExactlyOneRow : Obligations.EveryValueFitsExactlyOneRow := by
  refine ⟨fun p => ?_, fun w => ?_⟩
  · rw [mnemonic_decodeEv_label]
    exact evRows_fitting p.ev
  · rcases commandWord_cases w with ⟨a, hw, h⟩ | ⟨a, hw, h⟩ | ⟨u, idx, v, hw, h⟩ | ⟨a, hw, h⟩ <;>
      rw [h, hw, cwRows_filter_code] <;> rfl

/-- Settles O4: seven closed words. -/
theorem specWordsDecodeAsTheSpecSays : Obligations.SpecWordsDecodeAsTheSpecSays := by
  unfold Obligations.SpecWordsDecodeAsTheSpecSays
  decide

/-! ### Which operation a step runs (R90, R96, R109) -/

theorem requested_empty (p : PinSample) : requested .empty p = decodeEv p := by
  unfold requested
  split
  · rename_i h
    cases h
  · rfl

theorem requested_of_ne_writeControl (latch : Latch) {p : PinSample} (h : ∀ b, decodeEv p ≠ .writeControl b) :
    requested latch p = decodeEv p := by
  unfold requested
  split
  · exact absurd ‹_› (h _)
  · rfl

theorem requested_second_byte {p : PinSample} {hi : Byte} (lo : Byte) (h : decodeEv p = .writeControl hi) :
    requested (.halfFull lo) p = decodeCw (hi ++ lo) := by
  simp [requested, h]

/-- Settles O5: by the three things a label can request. -/
theorem stepRunsTheRequestedInstruction : Obligations.StepRunsTheRequestedInstruction := by
  intro s p rest hin
  rw [step_label s p rest hin]
  refine ⟨?_, fun hi lo hp hl => ?_⟩
  · rintro i rfl - (hl | hne)
    · rw [hl, requested_empty]
    · rw [requested_of_ne_writeControl _ hne]
  · rw [hl, requested_second_byte lo hp]

/-- The label presented last is taken first, and leaves the state it was presented to. -/
theorem step_present (s : State) (p : PinSample) : step (s.present p) = exec (requested s.latch p) s :=
  step_label (s.present p) p s.input rfl

/-- A command word run on its own looks neither at the latch nor at the outputs of the step before (log entry 10). -/
theorem exec_decodeCw_latch_out (w : BitVec 16) (s : State) (latch : Latch) (out : StepOutput) :
    exec (decodeCw w) { s with latch := latch, out := out } = exec (decodeCw w) s := by
  rcases commandWord_cases w with ⟨_, -, h⟩ | ⟨_, -, h⟩ | ⟨_, _, _, -, h⟩ | ⟨_, -, h⟩ <;> rw [h] <;> rfl

/-- A command word placed in the latch and on the pins is the next operation. -/
theorem step_presentCommand (s : State) (w : BitVec 16) : step (s.presentCommand w) = exec (decodeCw w) s := by
  have hbyte := decodeOfEncodeIsTheInstruction (.writeControl (w.extractLsb' 8 8)) rfl
  rw [State.presentCommand, step_present, requested_second_byte _ hbyte, halves_join]
  exact exec_decodeCw_latch_out w s _ s.out

/-- A placed label is the next operation; for a WriteControl the latch is empty. -/
theorem step_presentLabel (s : State) (p : PinSample) :
    ((∀ b, decodeEv p ≠ .writeControl b) → step (s.presentLabel p) = exec (decodeEv p) s) ∧
      ((∃ b, decodeEv p = .writeControl b) → step (s.presentLabel p) = exec (decodeEv p) { s with latch := .empty }) := by
  unfold State.presentLabel
  split
  · rename_i b h
    refine ⟨fun hne => absurd h (hne b), fun _ => ?_⟩
    rw [step_present, requested_empty]
  · rename_i hne
    refine ⟨fun _ => ?_, fun ⟨b, hb⟩ => absurd hb (hne b)⟩
    rw [step_present, requested_of_ne_writeControl _ hne]

/-- All that the word of a table row can decode to: a command word where the row is 16 bits wide, else a label (log entry 5). -/
theorem decodeTableWord_some {nbits w : Nat} {i : Instr} (h : decodeTableWord nbits w = some i) :
    (isCommandWidth nbits = true ∧ i = decodeCw (BitVec.ofNat 16 w)) ∨
      (isCommandWidth nbits = false ∧ i = decodeEv (sampleOfWord w)) := by
  unfold decodeTableWord decodeWord at h
  cases hw : isCommandWidth nbits with
  | true =>
    rw [hw, if_pos rfl] at h
    split_ifs at h
    cases h
    exact .inl ⟨rfl, rfl⟩
  | false =>
    rw [hw, if_neg Bool.false_ne_true] at h
    split_ifs at h
    cases h
    exact .inr ⟨rfl, rfl⟩

/-- Settles O7: by the width of the row, a command word or a label placed. -/
theorem fetchWordRunsItsInstruction : Obligations.FetchWordRunsItsInstruction := by
  intro s nbits w i h
  rcases decodeTableWord_some h with ⟨hw, rfl⟩ | ⟨hw, rfl⟩ <;> rw [State.withFetchWord, State.presentWord, hw]
  · exact ⟨fun _ => step_presentCommand s _, fun b hb => absurd hb (decodeCw_ne_writeControl _ b)⟩
  · obtain ⟨hlabel, hcontrol⟩ := step_presentLabel s (sampleOfWord w)
    exact ⟨hlabel, fun b hb => hcontrol ⟨b, hb⟩⟩

/-! ### The two control bytes (R122, R123) -/

/-- Every operation but RESET is its effect behind the check of R250. -/
theorem exec_eq_whenInitialised {i : Instr} (s : State) (hr : ∀ g p, i ≠ .reset g p) :
    exec i s = whenInitialised s (effect i) := by
  cases i with
  | reset g p => exact absurd rfl (hr g p)
  | _ => rfl

/-- A second control byte: the loads of R123 from the word the two bytes form, then the action of its code. -/
theorem effect_writeControl_halfFull (b : Byte) {lo : Byte} {s : State} (h : s.latch = .halfFull lo) :
    effect (.writeControl b) s = (s.loadCommand (assembleCode b) (assembleAddr b lo)).commandAction := by
  simp only [effect, h]

/-- The loads and the action of R123 are the effect of the decoded command word. -/
theorem loadCommand_action_eq_effect (b lo : Byte) (s : State) :
    (s.loadCommand (assembleCode b) (assembleAddr b lo)).commandAction = effect (decodeCw (b ++ lo)) s := by
  rw [assembleCode_eq, assembleAddr_eq, decodeCw, bytes_append_bit15, bytes_append_bit14]
  cases b.getLsbD 7 <;> cases b.getLsbD 6
  case true.false =>
    simp only [State.commandAction, loadCommand_code, loadCommand_addr, low14_idx, low14_data, effect, writeReg_fields_join]
  all_goals rfl

/-- Settles O8: both are refused before RESET, and after it have the same effect. -/
theorem secondControlByteRunsTheCommandWord : Obligations.SecondControlByteRunsTheCommandWord := by
  intro s b lo hl
  have heffect : effect (.writeControl b) s.beginStep = effect (decodeCw (b ++ lo)) s.beginStep :=
    (effect_writeControl_halfFull b (s := s.beginStep) hl).trans (loadCommand_action_eq_effect b lo _)
  rw [exec_eq_whenInitialised s (decodeCw_ne_reset _), exec_eq_whenInitialised s (by simp), whenInitialised, whenInitialised,
    heffect]

/-- The per-code action keeps the code loaded (R123). -/
theorem commandAction_code (s : State) : s.commandAction.code = s.code := by
  obtain ⟨regs, out, addr, readBuf, e⟩ := commandAction_frame s
  rw [e]

/-- The per-code action steps the address under READ_VRAM only (R124, C2). -/
theorem commandAction_addr (s : State) : s.commandAction.addr = s.addr + if s.code = .readVram then 1 else 0 := by
  cases h : s.code with
  | writeReg =>
    obtain ⟨regs, out, e⟩ := writeRegister_frame s (s.addr.extractLsb' 8 4) (s.addr.extractLsb' 0 8)
    simp [State.commandAction, h, e]
  | _ => simp [State.commandAction, h]

theorem Code.toNat_ofBits (c : BitVec 2) : (Code.ofBits c).toNat = c.toNat := by
  revert c
  decide

/-- The code of a second byte as a number (R92). -/
theorem assembleCode_toNat (b : Byte) : (assembleCode b).toNat = b.toNat >>> 6 := by
  have hb := b.isLt
  rw [assembleCode, Code.toNat_ofBits, BitVec.toNat_setWidth, BitVec.toNat_ushiftRight, Nat.mod_eq_of_lt]
  rw [Nat.shiftRight_eq_div_pow]
  omega

theorem Code.toNat_eq_zero (c : Code) : c.toNat = 0 ↔ c = .readVram := by
  cases c <;> decide

/-- The address of two control bytes as a number (R94). -/
theorem assembleAddr_toNat (hi lo : Byte) : (assembleAddr hi lo).toNat = ((hi.toNat &&& 0x3F) <<< 8) ||| lo.toNat := by
  have hlo := lo.isLt
  have hhi : hi.toNat &&& 0x3F ≤ 0x3F := Nat.and_le_right
  have hshift : (hi.toNat &&& 0x3F) <<< 8 < 2 ^ 14 := by
    rw [Nat.shiftLeft_eq]
    omega
  have hmask : (hi &&& 0x3F).toNat = hi.toNat &&& 0x3F := BitVec.toNat_and hi 0x3F
  rw [assembleAddr, BitVec.toNat_or, BitVec.toNat_shiftLeft, BitVec.toNat_setWidth, BitVec.toNat_setWidth, hmask,
    Nat.mod_eq_of_lt (show hi.toNat &&& 0x3F < 2 ^ 14 by omega), Nat.mod_eq_of_lt hshift,
    Nat.mod_eq_of_lt (show lo.toNat < 2 ^ 14 by omega)]

/-- Settles O13: the loads of R123, kept by the action but for READ_VRAM's step of the address. -/
theorem secondControlByteLoadsAddressAndCode : Obligations.SecondControlByteLoadsAddressAndCode := by
  intro s lo b hi hl
  refine ⟨_, exec_of_initialised _ s hi, ?_⟩
  rw [effect_writeControl_halfFull b (s := s.beginStep) hl, commandAction_latch, commandAction_code, commandAction_addr]
  refine ⟨rfl, assembleCode_toNat b, ?_⟩
  rw [loadCommand_addr, loadCommand_code, BitVec.toNat_add, assembleAddr_toNat]
  simp only [← Code.toNat_eq_zero, assembleCode_toNat]
  split <;> rfl

/-- Settles O12: the first byte goes into the latch. -/
theorem firstControlByteOnlyFillsTheLatch : Obligations.FirstControlByteOnlyFillsTheLatch := by
  refine ⟨fun b => decodeOfEncodeIsTheInstruction (.writeControl b) rfl, fun s b hi hl => ?_⟩
  rw [exec_of_initialised _ s hi, effect_writeControl_empty b (s := s.beginStep) hl]
  rfl

/-! ### The command words that address a memory (R124, R127, R131) -/

/-- Settles O14: the loads, then the pre-fetch. -/
theorem readVramCommandPrefetches : Obligations.ReadVramCommandPrefetches :=
  ⟨decodeCw_readVram, fun s a hi => exec_of_initialised (.cmdReadVram a) s hi⟩

/-- Settles O15: the loads alone. -/
theorem writeMemoryCommandsOnlyLoad : Obligations.WriteMemoryCommandsOnlyLoad :=
  ⟨fun a => ⟨decodeCw_writeVram a, decodeCw_writeCram a⟩, fun s a hi =>
    ⟨exec_of_initialised (.cmdWriteVram a) s hi, exec_of_initialised (.cmdWriteCram a) s hi⟩⟩

/-! ### The data port (R128, R129) -/

/-- Reading a memory at any address after one byte was stored in it. -/
theorem Memory.read_write {m : Memory} (a b : Nat) (v : Byte) (h : Cells.rising m = true) :
    (Memory.write m a v).read b = if b = a then v else m.read b := by
  split
  · subst b
    exact Memory.read_write_same a v h
  · exact Memory.read_write_other v h ‹_›

/-- Reading VRAM at any number after one byte was stored at a 14-bit address (R8, R43). -/
theorem vramWrite_vramByte {s : State} (a : VAddr) (x : Nat) (v : Byte) (h : Cells.rising s.vram = true) :
    (s.vramWrite a.toNat v).vramByte x = if x % vramSize = a.toNat then v else s.vramByte x := by
  rw [State.vramByte, vramWrite_vram, Memory.read_write _ _ v h, Nat.mod_eq_of_lt a.isLt, State.vramByte]

/-- WriteData under code 3 (R128). -/
theorem effect_writeData_cram (b : Byte) {s : State} (h : s.code = .writeCram) :
    effect (.writeData b) s = { s with
      cram := s.cram.write (s.addr.toNat % s.cramSize) b, latch := .empty, readBuf := b, addr := s.addr + 1 } := by
  simp only [effect, dataStore_cram s b h]
  rfl

/-- WriteData under codes 0, 1 and 2 (R128). -/
theorem effect_writeData_vram (b : Byte) {s : State} (h : s.code ≠ .writeCram) :
    effect (.writeData b) s = { s with
      vram := s.vram.write (s.addr.toNat % vramSize) b, latch := .empty, readBuf := b, addr := s.addr + 1 } := by
  simp only [effect, dataStore_vram s b h]
  rfl

/-- Settles O18: by the code, one store into one of the two memories. -/
theorem writeDataStoresOneByte : Obligations.WriteDataStoresOneByte := by
  refine ⟨fun b => decodeOfEncodeIsTheInstruction (.writeData b) rfl, fun s b hi hs => ?_⟩
  have hbump : (s.addr + 1).toNat = (s.addr.toNat + 1) % 0x4000 := BitVec.toNat_add s.addr 1
  refine ⟨_, exec_of_initialised _ s hi, ?_⟩
  by_cases hc : s.code = .writeCram
  · rw [effect_writeData_cram b (s := s.beginStep) hc]
    exact ⟨rfl, rfl, hbump, fun _ => ⟨fun _ => rfl, fun a => Memory.read_write _ a b (Memory.wf_rising hs.cramWf)⟩,
      fun hne => absurd hc hne, rfl⟩
  · rw [effect_writeData_vram b (s := s.beginStep) hc]
    exact ⟨rfl, rfl, hbump, fun he => absurd he hc,
      fun _ => ⟨fun _ => rfl, fun a => vramWrite_vramByte s.addr a b (Memory.wf_rising hs.vramWf)⟩, rfl⟩

/-- Settles O19: the buffer is returned, then refilled. -/
theorem getDataPortReturnsThenRefills : Obligations.GetDataPortReturnsThenRefills :=
  ⟨fun _ => by simp [decodeEv], fun s hi => by simp [exec_of_initialised _ s hi, effect]⟩

/-! ### The status read (R130, R259) -/

/-- The bits of the status byte (R102). -/
theorem Status.toByte_bits (f : Status) : f.toByte.getLsbD 7 = f.frameIrq ∧ f.toByte.getLsbD 6 = f.spriteOverflow ∧
    f.toByte.getLsbD 5 = f.spriteCollision ∧ f.toByte.toNat % 32 = 0 := by
  obtain ⟨irq, overflow, collision⟩ := f
  revert irq overflow collision
  decide

theorem Status.toByte_clear : ({} : Status).toByte = 0 := by
  decide

/-- GetStatusFlags in full (R130). -/
theorem exec_getStatusFlags {s : State} (hi : s.initialised = true) : exec .getStatusFlags s = .next { s with
    status := {}, linePending := false, framePending := false, latch := .empty
    out := { returned := some s.status.toByte, events := [] } } := by
  simp [exec_of_initialised _ s hi, effect]

/-- With no pending flag the INT level is 0 (R255). -/
theorem intLevel_of_not_pending {s : State} (hl : s.linePending = false) (hf : s.framePending = false) :
    s.intLevel = false := by
  simp [State.intLevel, State.lineIrq, State.frameIrq, hl, hf]

/-- Settles O20: the byte, then the acknowledge; a second read finds every flag clear. -/
theorem statusReadReturnsAndAcknowledges : Obligations.StatusReadReturnsAndAcknowledges := by
  intro s hi
  refine ⟨s.status.toByte, s.status.toByte_bits, _, rfl, exec_getStatusFlags hi, intLevel_of_not_pending rfl rfl, ?_⟩
  refine (exec_getStatusFlags ?_).trans ?_
  · exact hi
  · simp only [Status.toByte_clear]

/-! ### The pseudo-operations of two control bytes (R108) -/

/-- From an Empty latch two control bytes do what the word they form does (R122, R123). -/
theorem runInstrs_two_control_bytes (lo hi : Byte) {s t : State} (hinit : s.initialised = true) (hl : s.latch = .empty)
    (ht : exec (decodeCw (hi ++ lo)) s = .next t) :
    ∃ outs, runInstrs [.writeControl lo, .writeControl hi] s = .next (t, outs) := by
  have hfirst := firstControlByteOnlyFillsTheLatch.2 s lo hinit hl
  have hsecond := secondControlByteRunsTheCommandWord { s with latch := .halfFull lo, out := {} } hi lo rfl
  rw [exec_decodeCw_latch_out, ht] at hsecond
  exact ⟨_, runInstrs_cons _ _ _ _ _ _ hfirst (runInstrs_cons _ _ _ _ _ _ hsecond rfl)⟩

/-- The two bytes of R108, the second with the code in its top bits, form the word of the code and the address. -/
theorem control_bytes_join (c : BitVec 2) (a : VAddr) :
    ((c ++ 0#6) ||| (a >>> 8).setWidth 8) ++ a.setWidth 8 = c ++ a := by
  apply BitVec.eq_of_getLsbD_eq
  intro j hj
  simp only [BitVec.getLsbD_append, BitVec.getLsbD_or, BitVec.getLsbD_setWidth, BitVec.getLsbD_ushiftRight]
  by_cases h8 : j < 8
  · simp [h8, show j < 14 by omega]
  · by_cases h14 : j < 14
    · simp [h8, h14, show j - 8 < 6 by omega, show j - 8 < 8 by omega, show 8 + (j - 8) = j by omega]
    · simp [h8, h14, show ¬ j - 8 < 6 by omega, show j - 8 - 6 = j - 14 by omega, show 8 + (j - 8) = j by omega,
        BitVec.getLsbD_of_ge a j (by omega)]

/-- The two bytes of SETREG form the word of WRITE_REG (R108, R93). -/
theorem setReg_bytes_join (r : BitVec 4) (v : Byte) : (0x80 ||| r.setWidth 8) ++ v = 0b10#2 ++ (0#2 ++ r ++ v) := by
  apply BitVec.eq_of_getLsbD_eq
  intro j hj
  simp only [BitVec.getLsbD_append]
  interval_cases j <;> simp

/-- The address WRITE_REG loads, as a number (R95). -/
theorem writeReg_address_toNat (r : BitVec 4) (v : Byte) : (0#2 ++ r ++ v).toNat = r.toNat * 256 + v.toNat := by
  rw [BitVec.toNat_append, BitVec.toNat_append, ← Nat.shiftLeft_add_eq_or_of_lt v.isLt, Nat.shiftLeft_eq]
  simp

/-- Settles O52: the two bytes are WRITE_REG of the register and the value. -/
theorem setRegSequenceWritesTheRegister : Obligations.SetRegSequenceWritesTheRegister := by
  intro s r v hi hl
  obtain ⟨t, ht, hreg, haddr, hcode, hlatch, -, hframe⟩ := writeRegCommandWritesOneRegister s 0#2 r v hi
  have hword : exec (decodeCw ((0x80 ||| r.setWidth 8) ++ v)) s = .next t := by
    rw [setReg_bytes_join, decodeCw_writeReg]
    exact ht
  obtain ⟨outs, hrun⟩ := runInstrs_two_control_bytes v _ hi hl hword
  exact ⟨t, outs, hrun, hreg, hcode, hlatch, haddr ▸ writeReg_address_toNat r v, hframe⟩

/-- The two bytes of an address sequence run the command word of its code and address (R108). -/
theorem runInstrs_code_address (c : BitVec 2) {a : VAddr} {s t : State} (hinit : s.initialised = true)
    (hl : s.latch = .empty) (ht : exec (decodeCw (c ++ a)) s = .next t) :
    ∃ outs, runInstrs [.writeControl (a.setWidth 8), .writeControl ((c ++ 0#6) ||| (a >>> 8).setWidth 8)] s =
      .next (t, outs) :=
  runInstrs_two_control_bytes _ _ hinit hl (by rwa [control_bytes_join])

/-- Settles O53: the three sequences are the command words of the codes 1, 3 and 0. -/
theorem addressSequencesLoadTheAddress : Obligations.AddressSequencesLoadTheAddress := by
  intro s a hi hl
  obtain ⟨hvram, hcram⟩ := writeMemoryCommandsOnlyLoad.2 s a hi
  have hread := readVramCommandPrefetches.2 s a hi
  rw [← decodeCw_writeVram, ← hl] at hvram
  rw [← decodeCw_writeCram, ← hl] at hcram
  rw [← decodeCw_readVram, ← hl] at hread
  refine ⟨runInstrs_code_address 0b01#2 hi hl hvram, runInstrs_code_address 0b11#2 hi hl hcram, ?_⟩
  simpa [vramROps] using runInstrs_code_address 0b00#2 hi hl hread

end Sys2Proof.Machine
end

section
/-! PROOFS. The statements of spec/40_port_protocol.md on the register write's interrupt, the upload through the data port, the
counter reads and the reserved writes. -/

namespace Sys2Proof.Machine

open Sys2Proof.Config

/-! ### The interrupt of an enable transition (R126) -/

section

variable (s : State) (v : Byte)

/-- The line source: `reg[0]` bit 4 taken from 0 to 1 while `line_pending` is 1 (R126). -/
theorem enableFires_lineEnable : enableFires s 0 (s.reg 0) v = true ↔
    (s.reg 0).getLsbD 4 = false ∧ v.getLsbD 4 = true ∧ s.linePending = true := by
  simp [enableFires, and_assoc]

/-- The frame source: `reg[1]` bit 5 taken from 0 to 1 while `frame_pending` is 1 (R126). -/
theorem enableFires_frameEnable : enableFires s 1 (s.reg 1) v = true ↔
    (s.reg 1).getLsbD 5 = false ∧ v.getLsbD 5 = true ∧ s.framePending = true := by
  simp [enableFires, and_assoc]

/-- The registers 2 to 10 hold no interrupt enable (R22, R23). -/
theorem enableFires_other {i : Fin 11} (old : Byte) (h0 : i.val ≠ 0) (h1 : i.val ≠ 1) :
    enableFires s i old v = false := by
  simp [enableFires, Fin.ext_iff, h0, h1]

/-- The events of WRITE_REG's action, by the register its index names (R125, R126). -/
theorem writeRegister_events (idx : BitVec 4) : (s.writeRegister idx v).out.events = s.out.events ++
    if (idx = 0 ∧ (s.reg 0).getLsbD 4 = false ∧ v.getLsbD 4 = true ∧ s.linePending = true) ∨
       (idx = 1 ∧ (s.reg 1).getLsbD 5 = false ∧ v.getLsbD 5 = true ∧ s.framePending = true)
    then [.requestInt] else [] := by
  by_cases h0 : idx = 0
  · subst h0
    rw [writeRegister_existing s 0 v (by decide)]
    simpa using if_congr (enableFires_lineEnable s v) rfl rfl
  by_cases h1 : idx = 1
  · subst h1
    rw [writeRegister_existing s 1 v (by decide)]
    simpa using if_congr (enableFires_frameEnable s v) rfl rfl
  rw [if_neg (by rintro (⟨e, -⟩ | ⟨e, -⟩); exacts [h0 e, h1 e])]
  by_cases h : idx.toNat < 11
  · have hfires := enableFires_other s v (i := ⟨idx.toNat, h⟩) (s.reg ⟨idx.toNat, h⟩)
      (fun e => h0 (BitVec.eq_of_toNat_eq e)) (fun e => h1 (BitVec.eq_of_toNat_eq e))
    simp [writeRegister_existing s idx v h, hfires]
  · simp [writeRegister_missing s idx v h]

end

/-- Settles O17: the loads of R123 emit nothing, and the register write emits its enable transition's event. -/
theorem enableTransitionAsserts : Obligations.EnableTransitionAsserts := by
  intro s t u idx v ht
  obtain ⟨-, rfl⟩ := exec_next_of_ne_reset (by simp) ht
  exact writeRegister_events (s.beginStep.loadCommand .writeReg (u ++ idx ++ v)) v idx

/-! ### The upload through the data port (R124, R127, R128, R129) -/

/-- VRAM reads alike at numbers that name the same byte (R8). -/
theorem vramByte_congr (s : State) {x y : Nat} (h : x % 0x4000 = y % 0x4000) : s.vramByte x = s.vramByte y := by
  rw [State.vramByte, h, State.vramByte]

/-- One byte written through the data port under a VRAM code: it stands where `addr` was, every other byte of VRAM is as
before, `addr` is one ahead, and the next byte can follow (R128). -/
theorem exec_writeData_vram (b : Byte) {s : State} (hi : s.initialised = true) (hc : s.code ≠ .writeCram)
    (hv : Memory.wf vramSize s.vram = true) :
    ∃ t, exec (.writeData b) s = .next t ∧ t.initialised = true ∧ t.code ≠ .writeCram ∧ Memory.wf vramSize t.vram = true ∧
      t.addr.toNat = (s.addr.toNat + 1) % 0x4000 ∧
      ∀ k < 0x4000, t.vramByte (s.addr.toNat + k) = if k = 0 then b else s.vramByte (s.addr.toNat + k) := by
  refine ⟨_, exec_of_initialised _ s hi, ?_⟩
  rw [effect_writeData_vram b (s := s.beginStep) hc]
  refine ⟨hi, hc, Memory.wf_write b hv (Nat.mod_lt _ (by decide)), BitVec.toNat_add s.addr 1, fun k hk => ?_⟩
  have haddr := s.addr.isLt
  have hbyte : (s.addr.toNat + k) % 0x4000 = s.addr.toNat ↔ k = 0 := by omega
  exact (vramWrite_vramByte s.addr _ b (Memory.wf_rising hv)).trans (if_congr hbyte rfl rfl)

/-- Bytes written through the data port under a VRAM code, at most a whole VRAM of them, stand from `addr` on in their order
with the 14-bit wrap, and the rest of VRAM is as before (R128, R64). -/
theorem runInstrs_writeData (bytes : List Byte) {s : State} (hi : s.initialised = true) (hc : s.code ≠ .writeCram)
    (hv : Memory.wf vramSize s.vram = true) (hlen : bytes.length ≤ 0x4000) :
    ∃ t outs, runInstrs (bytes.map Instr.writeData) s = .next (t, outs) ∧ outs.length = bytes.length ∧
      t.initialised = true ∧
      ∀ k < 0x4000, t.vramByte (s.addr.toNat + k) = bytes.getD k (s.vramByte (s.addr.toNat + k)) := by
  induction bytes generalizing s with
  | nil => exact ⟨s, [], rfl, rfl, hi, fun _ _ => rfl⟩
  | cons b rest ih =>
    rw [List.length_cons] at hlen
    obtain ⟨m, hexec, hmi, hmc, hmv, hmaddr, hstored⟩ := exec_writeData_vram b hi hc hv
    obtain ⟨t, outs, ht, houts, hti, hbytes⟩ := ih hmi hmc hmv (by omega)
    refine ⟨t, _, runInstrs_cons _ _ _ _ _ _ hexec ht, congrArg (· + 1) houts, hti, fun k hk => ?_⟩
    cases k with
    | zero =>
      have hlast : rest.length ≤ 0x3FFF := by omega
      calc t.vramByte (s.addr.toNat + 0)
          = t.vramByte (m.addr.toNat + 0x3FFF) := vramByte_congr t (by omega)
        _ = m.vramByte (m.addr.toNat + 0x3FFF) := by
            rw [hbytes _ (by decide), List.getD_eq_default _ _ hlast]
        _ = m.vramByte (s.addr.toNat + 0) := vramByte_congr m (by omega)
        _ = b := hstored 0 (by decide)
    | succ k =>
      have hnext : (s.addr.toNat + (k + 1)) % 0x4000 = (m.addr.toNat + k) % 0x4000 := by omega
      calc t.vramByte (s.addr.toNat + (k + 1))
          = t.vramByte (m.addr.toNat + k) := vramByte_congr t hnext
        _ = rest.getD k (m.vramByte (s.addr.toNat + (k + 1))) := by
            rw [hbytes k (by omega), vramByte_congr m hnext]
        _ = rest.getD k (s.vramByte (s.addr.toNat + (k + 1))) := by
            rw [hstored (k + 1) hk, if_neg k.succ_ne_zero]

/-- Settles O55: the upload leaves the bytes from the start address on, and the read stream returns what stands there. -/
theorem uploadedBytesReadBack : Obligations.UploadedBytesReadBack := by
  intro s a bytes hi hs hlen
  obtain ⟨m, ws, hm, hws, hmi, hbytes⟩ := runInstrs_writeData bytes (s := effect (.cmdWriteVram a) s.beginStep) hi
    (by simp [effect]) hs.vramWf hlen
  obtain ⟨t, rs, ht, hrs⟩ := readStreamReturnsConsecutiveBytes m a bytes.length hmi
  refine ⟨t, _, runInstrs_append _ _ _ _ _ _ _
    (runInstrs_cons _ _ _ _ _ _ (exec_of_initialised (.cmdWriteVram a) s hi) hm) ht, ?_⟩
  have hdrop (w : StepOutput) : ((w :: ws) ++ rs).drop (bytes.length + 2) = rs.tail := by
    rw [← hws, ← List.drop_one]
    exact List.drop_length_add_append 1
  rw [hdrop, hrs]
  refine List.ext_getElem (by simp) fun k hk _ => ?_
  have hk : k < bytes.length := by simpa using hk
  have hbyte : m.vramByte (a.toNat + k) = bytes[k] := (hbytes k (by omega)).trans (List.getD_eq_getElem _ _ hk)
  simp [hbyte]

/-! ### The counter ports (R132, R133, R134) -/

/-- On the active display every usable table gives the line itself, whatever the straps select (R168, R169). -/
theorem vcTables_select_active {c : VcTables} (h : c.Wf) (pal gameGear : Bool) {l : Nat} (hl : l < activeEnd) :
    (c.select pal gameGear)[l]? = some (BitVec.ofNat 8 l) := by
  obtain ⟨⟨-, smsNtsc⟩, ⟨-, smsPal⟩, ⟨-, ggNtsc⟩, -, ggPal⟩ := h
  match pal, gameGear with
  | false, false => exact smsNtsc l hl
  | true,  false => exact smsPal l hl
  | false, true  => exact ggNtsc l hl
  | true,  true  => exact ggPal l hl

/-- The V counter on the active display (R169). -/
theorem vCounter_active {s : State} (hp : s.params.Wf) (hl : s.line.toNat < activeEnd) :
    s.vCounter = BitVec.ofNat 8 s.line.toNat := by
  obtain ⟨-, -, -, -, htables, -⟩ := hp
  rw [State.vCounter, List.getD_eq_getElem?_getD, vcTables_select_active htables s.pal s.gameGear hl, Option.getD_some]

/-- Settles O21: both reads only return, and a usable table gives the line. -/
theorem counterReadsChangeNothing : Obligations.CounterReadsChangeNothing := fun s hi =>
  ⟨exec_of_initialised .getVCounter s hi, exec_of_initialised .getHCounter s hi, vCounter_active⟩

/-- Settles O22: the effect of both is none. -/
theorem reservedWritesChangeNothing : Obligations.ReservedWritesChangeNothing := fun s d hi =>
  ⟨exec_of_initialised (.reservedW2 d) s hi, exec_of_initialised (.reservedW3 d) s hi⟩

end Sys2Proof.Machine
end

section
/-! PROOFS. The statements of spec/41_timing_engine.md: CLOCK inside a line and at its end, the frame end, Tick(n), LATCHH, and
what the V counter and the latched vertical scroll follow. -/

namespace Sys2Proof.Machine

open Sys2Proof.Config

/-! ### CLOCK inside a line, and LATCHH (R150, R172) -/

/-- Settles O29: the case of CLOCK's effect that is not a line end. -/
theorem clockInsideALineOnlyMovesTheBeam : Obligations.ClockInsideALineOnlyMovesTheBeam := by
  intro s hi hc
  have hin : s.beginStep.atLineEnd = false := Bool.eq_false_iff.2 fun h => hc ((atLineEnd_iff s).1 h)
  exact (exec_of_initialised .clock s hi).trans (congrArg _ (clockEffect_inside s.beginStep hin))

/-- Settles O23: LATCHH's effect is the copy. -/
theorem latchHCopiesTheHCounter : Obligations.LatchHCopiesTheHCounter := fun s hi =>
  exec_of_initialised .latchH s hi

/-- Settles O37: `n` is positive, so the last CLOCK has cleared the outputs. -/
theorem tickInsideALineOnlyMovesTheBeam : Obligations.TickInsideALineOnlyMovesTheBeam := by
  intro s n hi hp hlen hn hc
  obtain ⟨⟨-, hcpl⟩, -⟩ := hp
  obtain ⟨t, ht, hcyc, hout, hframe⟩ := tick_inside hi (by omega) hc
  rw [if_neg (by omega)] at hout
  rw [hout] at hframe
  exact ⟨t, ht, hcyc, hframe⟩

/-! ### The actions of a line end (R151 to R165) -/

/-- What CLOCK leaves alone, said of the whole state. -/
theorem ClockFrame.eq_with {s t : State} (h : ClockFrame s t) : t = { s with
    info := t.info, status := t.status, linePending := t.linePending, framePending := t.framePending
    line := t.line, cyc := t.cyc, fracAcc := t.fracAcc, lineLen := t.lineLen, hblank := t.hblank
    lineCounter := t.lineCounter, vscrollLatched := t.vscrollLatched, fb := t.fb, out := t.out } := by
  obtain ⟨hregs, hvram, hcram, hlatch, haddr, hcode, hreadBuf, hhcLatch, hgg, hpal, hinit, hparams, hinput⟩ := h
  rw [← hregs, ← hvram, ← hcram, ← hlatch, ← haddr, ← hcode, ← hreadBuf, ← hhcLatch, ← hgg, ← hpal, ← hinit, ← hparams,
    ← hinput]

/-- Settles O30: CLOCK keeps its frame at a line end too. -/
theorem clockAtALineEndLeavesTheHostsStateAlone : Obligations.ClockAtALineEndLeavesTheHostsStateAlone := fun s hi _ =>
  ⟨_, exec_of_initialised .clock s hi, (clockEffect_clockFrame s.beginStep).eq_with⟩

/-- Settles O32: by the line, and by the counter being 0. -/
theorem lineEndStepsTheLineCounter : Obligations.LineEndStepsTheLineCounter := by
  intro s hi hc
  refine ⟨_, exec_clock_lineEnd s hi hc, fun hL hne => ?_, fun hL hz => ?_, fun hL => ?_⟩
  · have hne : s.lineCounter ≠ 0#8 := hne
    have hdec : (s.lineCounter - 1#8).toNat + 1 = s.lineCounter.toNat := by bv_omega
    have hcounter : (lineEnd s.counted).lineCounter = s.lineCounter - 1#8 := by simp [hL, hne]
    rw [updateHblank_lineCounter, hcounter]
    exact ⟨hdec, by simp [hne]⟩
  · simp [hL, hz]
  · simp [Nat.not_le.2 hL]

/-- Settles O33: the flags are raised exactly by line 192. -/
theorem lineEndOfLine192SetsTheFrameFlags : Obligations.LineEndOfLine192SetsTheFrameFlags := by
  intro s hi hc
  have hirq := lineEnd_status_frameIrq s.counted
  have hpending := lineEnd_framePending s.counted
  refine ⟨_, exec_clock_lineEnd s hi hc, fun hL => ?_, fun hL => ?_⟩ <;>
    rw [updateHblank_status, updateHblank_framePending, hirq, hpending] <;> simp [hL]

/-- Settles O34: the events of the four actions, on a step that began with none. -/
theorem lineEndEmitsItsEventsInOrder : Obligations.LineEndEmitsItsEventsInOrder := by
  intro s hi hc
  refine ⟨_, exec_clock_lineEnd s hi hc, ?_, ?_⟩ <;> rw [updateHblank_out, lineEnd_out, counted_out]
  simp [State.lineEnable, State.frameEnable]

/-- Settles O49: below the display the line end runs no pass. -/
theorem linesBelowTheDisplayDrawNothing : Obligations.LinesBelowTheDisplayDrawNothing := by
  intro s hi hc hL
  have hbelow : ¬ s.line.toNat < activeEnd := Nat.not_lt.2 hL
  refine ⟨_, exec_clock_lineEnd s hi hc, fun i => ?_, ?_, ?_, ?_⟩ <;> simp [State.fbWord, hbelow]

/-! ### The frame end (R163, R164, R165) -/

/-- The last line of the frame, in the two forms the rules write it. -/
theorem last_line_iff (s : State) : s.line.toNat = s.linesPerFrame - 1 ↔ s.line.toNat + 1 = s.linesPerFrame := by
  have := linesPerFrame_bounds s
  omega

/-- FrameReady is emitted once by the frame end and by no other line end (R165). -/
theorem lineEnd_count_frameReady (s : State) : (lineEnd s.counted).out.events.count .frameReady =
    if s.line.toNat + 1 = s.linesPerFrame then 1 else 0 := by
  have hints (p : Prop) [Decidable p] : (if p then [Event.requestInt] else []).count .frameReady = 0 := by
    split <;> rfl
  have hready (p : Prop) [Decidable p] : (if p then [Event.frameReady] else []).count .frameReady = if p then 1 else 0 := by
    split <;> rfl
  simp only [lineEnd_out, counted_out, List.count_append, hints, hready, counted_line, counted_linesPerFrame, last_line_iff,
    List.count_nil, Nat.zero_add]

theorem lineEnd_contains_frameReady (s : State) :
    (lineEnd s.counted).out.events.contains .frameReady = decide (s.line.toNat + 1 = s.linesPerFrame) := by
  rw [List.contains_eq_mem, decide_eq_decide, ← List.count_pos_iff, lineEnd_count_frameReady]
  split <;> simp [*]

/-- The beam's line after a line end (R152, R164); no frame has more lines than the 9 bits count. -/
theorem lineEnd_line_toNat {s : State} (h : s.line.toNat < s.linesPerFrame) : (lineEnd s.counted).line.toNat =
    if s.line.toNat + 1 = s.linesPerFrame then 0 else s.line.toNat + 1 := by
  have hbound := linesPerFrame_bounds s
  rw [lineEnd_line, counted_line, counted_linesPerFrame]
  simp only [last_line_iff]
  split
  · rfl
  · rw [BitVec.toNat_ofNat, Nat.mod_eq_of_lt (by omega)]

theorem lineEnd_vscroll (s : State) : (lineEnd s.counted).vscrollLatched =
    if s.line.toNat + 1 = s.linesPerFrame then s.reg 9 else s.vscrollLatched := by
  simp [last_line_iff]

/-- Settles O31: the line, the latch and the event each by whether the line is the frame's last. -/
theorem lineEndMovesTheBeamAndEndsTheFrame : Obligations.LineEndMovesTheBeamAndEndsTheFrame := by
  intro s hi hc hL
  have hline := lineEnd_line_toNat hL
  have hscroll := lineEnd_vscroll s
  have hcount := lineEnd_count_frameReady s
  refine ⟨_, exec_clock_lineEnd s hi hc, lineEnd_cyc _, fun hmid => ?_, fun hlast => ?_⟩
  · rw [if_neg (by omega)] at hline hscroll hcount
    exact ⟨hline, hscroll, List.count_eq_zero.1 hcount⟩
  · rw [if_pos hlast] at hline hscroll hcount
    exact ⟨BitVec.eq_of_toNat_eq hline, hscroll, hcount⟩

/-- All that the end of the frame's last line changes, where its line-counter step is a hold (R158, R164). -/
theorem lineEnd_frameEnd {s : State} (hL : s.line.toNat = s.linesPerFrame - 1)
    (hhold : s.params.lcLastDecLine < s.line.toNat) : lineEnd s = { s with
      vscrollLatched := s.reg 9, line := 0, cyc := 0, lineCounter := s.reg 10
      fracAcc := (lineEnd s).fracAcc, lineLen := (lineEnd s).lineLen
      out := { s.out with events := s.out.events ++ [.frameReady] } } := by
  have hlast : 193 ≤ s.line.toNat := by
    rw [hL, State.linesPerFrame, Config.linesPerFrame]
    split <;> decide
  have hbelow : ¬ s.line.toNat < activeEnd := Nat.not_lt.2 (Nat.le_of_succ_le hlast)
  have h192 : s.line.toNat ≠ activeEnd := Nat.ne_of_gt hlast
  rw [lineEnd_frame]
  simp [hbelow, h192, Nat.not_le.2 hhold, ← hL]

/-- A first CLOCK, then the rest of the Tick (R166). -/
theorem tick_succ {n : Nat} {s t u : State} {ready : Bool} (h : exec .clock s = .next t)
    (ht : tick n t = .next (u, ready)) :
    tick (n + 1) s = .next (u, t.out.events.contains .frameReady || ready) := by
  simp [tick, h, ht]

/-- Settles O59: the frame end's own changes, seen by a Tick of one CLOCK and in the V counter of line 0. -/
theorem frameEndLatchesScrollAndSignalsTheFrame : Obligations.FrameEndLatchesScrollAndSignalsTheFrame := by
  intro s hi hc hL hhold
  have hlast : s.line.toNat = s.linesPerFrame - 1 := by
    rw [hL, State.linesPerFrame, Config.linesPerFrame]
    split <;> rfl
  have hclock := exec_clock_lineEnd s hi hc
  have hready : (updateHblank (lineEnd s.counted)).out.events.contains .frameReady = true := by
    rw [updateHblank_out, lineEnd_contains_frameReady, decide_eq_true ((last_line_iff s).1 hlast)]
  have htick := tick_succ (n := 0) hclock rfl
  rw [hready, Bool.true_or] at htick
  refine ⟨_, hclock, htick, fun hp => ?_, ?_⟩
  · have hline : (updateHblank (lineEnd s.counted)).line = 0 := by simp [hlast]
    rw [vCounter_active (by simpa using hp) (by rw [hline]; decide), hline]
    rfl
  · have hframe := lineEnd_frameEnd (s := s.counted) hlast hhold
    generalize lineEnd s.counted = t at *
    rw [hframe]
    rfl

/-! ### What only a line end or the frame end changes (R163, R168) -/

/-- The V counter reads the line, the straps and the tables (R168). -/
theorem vCounter_congr {s t : State} (hline : t.line = s.line) (hpal : t.pal = s.pal) (hgg : t.gameGear = s.gameGear)
    (hparams : t.params = s.params) : t.vCounter = s.vCounter := by
  rw [State.vCounter, State.vCounter, hline, hpal, hgg, hparams]

/-- Settles O41: neither the host's operations nor a CLOCK inside a line write what the V counter reads. -/
theorem vCounterChangesOnlyAtALineEnd : Obligations.VCounterChangesOnlyAtALineEnd := by
  intro i s t ht hne
  rcases exec_next_reset_or ht with ⟨g, p, rfl, -⟩ | ⟨hr, rfl⟩
  · exact .inr ⟨g, p, rfl⟩
  by_cases hc : i = .clock
  · subst hc
    rcases effect_clock s with ⟨hend, -⟩ | ⟨-, e⟩
    · exact .inl ⟨rfl, (atLineEnd_iff s).1 hend⟩
    · rw [e] at hne
      exact absurd rfl hne
  · have hframe := effect_hostFrame (s := s.beginStep) hc hr
    exact absurd (vCounter_congr hframe.line hframe.pal hframe.gameGear hframe.params) hne

/-- What CLOCK leaves in the latched vertical scroll (R163). -/
theorem effect_clock_vscroll (s : State) : (effect .clock s.beginStep).vscrollLatched =
    if s.cyc.toNat + 1 = s.lineLen ∧ s.line.toNat + 1 = s.linesPerFrame then s.reg 9 else s.vscrollLatched := by
  rcases effect_clock s with ⟨hc, e⟩ | ⟨hc, e⟩ <;> rw [e]
  · simp only [updateHblank_vscrollLatched, lineEnd_vscroll, (atLineEnd_iff s).1 hc, true_and]
  · rw [if_neg fun h => by simp [(atLineEnd_iff s).2 h.1] at hc]
    rfl

/-- Settles O60: the value CLOCK leaves, the host's frame, RESET's table, and CLOCK's indifference to `reg[9]` before the frame
end. -/
theorem verticalScrollIsLatchedForTheNextFrame : Obligations.VerticalScrollIsLatchedForTheNextFrame := by
  refine ⟨fun s hi hc hL => ?_, fun i s t ht hne => ?_, fun s g p => ⟨_, exec_reset g p s, rfl⟩, fun s v hi hmid => ?_⟩
  · exact ⟨_, exec_of_initialised .clock s hi, (effect_clock_vscroll s).trans (if_pos ⟨hc, hL⟩)⟩
  · rcases exec_next_reset_or ht with ⟨g, p, rfl, rfl⟩ | ⟨hr, rfl⟩
    · exact .inr ⟨g, p, rfl, rfl⟩
    by_cases hc : i = .clock
    · subst hc
      by_contra hnot
      rw [effect_clock_vscroll, if_neg fun ⟨hend, hlast⟩ => hnot (.inl ⟨rfl, hend, hlast⟩)] at hne
      exact hne rfl
    · exact absurd (effect_hostFrame (s := s.beginStep) hc hr).vscrollLatched hne
  · have hmid' : ¬ (s.beginStep.atLineEnd = true ∧ s.beginStep.line.toNat = s.beginStep.linesPerFrame - 1) :=
      fun ⟨hend, hlast⟩ => hmid ⟨(atLineEnd_iff s).1 hend, (last_line_iff s).1 hlast⟩
    refine ⟨_, exec_of_initialised .clock s hi, (exec_of_initialised .clock (s.setReg 9 v) hi).trans ?_⟩
    exact congrArg _ (setReg9_clockEffect s.beginStep v hmid')

/-! ### The beam over many CLOCK steps (R152, R166, R175) -/

/-- The CLOCK steps since the frame's start, where every line takes `CPL` of them. -/
def State.beam (s : State) : Nat := s.line.toNat * s.params.cpl + s.cyc.toNat

/-- The CLOCK steps of a frame whose lines take `CPL` each (R175). -/
def State.frameLen (s : State) : Nat := s.params.cpl * s.linesPerFrame

/-- The invariant of R51 where no line is lengthened: no fractional adjustment (R153). -/
structure State.Unadjusted (s : State) : Prop where
  inv      : s.Inv
  fracNum  : s.params.fracNum = 0
  lineLen  : s.lineLen = s.params.cpl

section

variable {s : State} (h : s.Unadjusted)

include h

/-- The beam with a whole line ahead of it is as far into the line after. -/
theorem State.Unadjusted.beam_add_lineLen : s.beam + s.lineLen = s.params.cpl * (s.line.toNat + 1) + s.cyc.toNat := by
  rw [State.beam, h.lineLen, Nat.mul_add_one, Nat.mul_comm]
  omega

/-- The end of the beam's line lies within the frame (R32). -/
theorem State.Unadjusted.line_le_frameLen : s.params.cpl * (s.line.toNat + 1) ≤ s.frameLen :=
  Nat.mul_le_mul_left _ h.inv.lineRange

/-- The beam lies within the frame (R32). -/
theorem State.Unadjusted.beam_lt : s.beam < s.frameLen := by
  have := h.beam_add_lineLen
  have := h.line_le_frameLen
  have := h.inv.cycRange
  omega

/-- A line end comes after a whole number of lines. -/
theorem State.Unadjusted.beam_succ_at_end (hc : s.cyc.toNat + 1 = s.lineLen) :
    s.beam + 1 = s.params.cpl * (s.line.toNat + 1) := by
  have := h.beam_add_lineLen
  omega

/-- The beam is at the frame's last step exactly at the end of its last line. -/
theorem State.Unadjusted.beam_last_iff :
    s.beam + 1 = s.frameLen ↔ s.cyc.toNat + 1 = s.lineLen ∧ s.line.toNat + 1 = s.linesPerFrame := by
  have hline := h.beam_add_lineLen
  have hframe := h.line_le_frameLen
  have hcyc := h.inv.cycRange
  have hcpl := h.lineLen
  by_cases hc : s.cyc.toNat + 1 = s.lineLen
  · rw [h.beam_succ_at_end hc, State.frameLen, Nat.mul_right_inj (by omega)]
    simp [hc]
  · simp only [hc, false_and, iff_false]
    omega

/-- Without fractional adjustment every next line takes `CPL` steps (R153). -/
theorem State.Unadjusted.lineEnd_lineLen : (lineEnd s.counted).lineLen = s.params.cpl := by
  simp [h.fracNum, h.inv.fracRange]

/-- One CLOCK without fractional adjustment: the beam steps by one, and from the frame's last step back to its start, where and
only where FrameReady is emitted (R150, R152, R164, R165). -/
theorem exec_clock_unadjusted : ∃ t, exec .clock s = .next t ∧ t.Unadjusted ∧ t.params = s.params ∧ t.pal = s.pal ∧
    t.beam = (if s.beam + 1 = s.frameLen then 0 else s.beam + 1) ∧
    t.out.events.contains .frameReady = decide (s.beam + 1 = s.frameLen) := by
  have hexec := exec_of_initialised .clock s h.inv.initialised
  have hinv := inv_exec h.inv hexec
  rcases effect_clock s with ⟨hend, e⟩ | ⟨hin, e⟩ <;> rw [e] at hexec hinv
  · have hc := (atLineEnd_iff s).1 hend
    have hlast : s.beam + 1 = s.frameLen ↔ s.line.toNat + 1 = s.linesPerFrame := by simp [h.beam_last_iff, hc]
    refine ⟨_, hexec, ⟨hinv, by simpa using h.fracNum, by simpa using h.lineEnd_lineLen⟩, by simp, by simp, ?_, ?_⟩
    · have hbeam : (updateHblank (lineEnd s.counted)).beam =
          s.params.cpl * if s.line.toNat + 1 = s.linesPerFrame then 0 else s.line.toNat + 1 := by
        rw [State.beam, updateHblank_line, lineEnd_line_toNat h.inv.lineRange, Nat.mul_comm]
        simp
      rw [hbeam, mul_ite, Nat.mul_zero, ← h.beam_succ_at_end hc]
      exact if_congr hlast.symm rfl rfl
    · rw [updateHblank_out, lineEnd_contains_frameReady, decide_eq_decide, hlast]
  · have hne : s.cyc.toNat + 1 ≠ s.lineLen := fun hc => by simp [(atLineEnd_iff s).2 hc] at hin
    have hmid : ¬ s.beam + 1 = s.frameLen := fun hb => hne (h.beam_last_iff.1 hb).1
    have hlen := h.inv.lineLen_le
    have hcyc := h.inv.cycRange
    refine ⟨_, hexec, ⟨hinv, h.fracNum, h.lineLen⟩, rfl, rfl, ?_, ?_⟩
    · rw [if_neg hmid]
      exact congrArg _ (cyc_succ_toNat (by omega))
    · rw [decide_eq_false hmid]
      rfl

end

/-- Tick(n) without fractional adjustment moves the beam by n modulo the frame, and tells whether the frame's end was passed
(R166). -/
theorem tick_unadjusted (n : Nat) {s : State} (h : s.Unadjusted) :
    ∃ t, tick n s = .next (t, decide (s.frameLen ≤ s.beam + n)) ∧ t.params = s.params ∧
      t.beam = (s.beam + n) % s.frameLen := by
  induction n generalizing s with
  | zero =>
    have hb := h.beam_lt
    have hnot : decide (s.frameLen ≤ s.beam + 0) = false := decide_eq_false (Nat.not_le.2 hb)
    exact ⟨s, by rw [hnot, tick], rfl, (Nat.mod_eq_of_lt hb).symm⟩
  | succ n ih =>
    obtain ⟨m, hm, hmu, hmparams, hmpal, hmbeam, hmready⟩ := exec_clock_unadjusted h
    obtain ⟨t, ht, htparams, htbeam⟩ := ih hmu
    have hlen : m.frameLen = s.frameLen := by rw [State.frameLen, State.linesPerFrame, hmparams, hmpal]; rfl
    have hrun := tick_succ hm ht
    rw [hlen] at hrun htbeam
    by_cases hlast : s.beam + 1 = s.frameLen
    · rw [if_pos hlast] at hmbeam
      have hpassed : s.frameLen ≤ s.beam + (n + 1) := by omega
      have hsum : s.beam + (n + 1) = s.frameLen + n := by omega
      rw [hmready, decide_eq_true hlast, Bool.true_or] at hrun
      rw [decide_eq_true hpassed, hsum, Nat.add_mod_left]
      rw [hmbeam, Nat.zero_add] at htbeam
      exact ⟨t, hrun, htparams.trans hmparams, htbeam⟩
    · rw [if_neg hlast] at hmbeam
      have hsum : m.beam + n = s.beam + (n + 1) := by omega
      rw [hmready, decide_eq_false hlast, Bool.false_or, hsum] at hrun
      rw [hsum] at htbeam
      exact ⟨t, hrun, htparams.trans hmparams, htbeam⟩

/-- Settles O38: the start of a frame is beam 0. -/
theorem beamPositionAfterTicks : Obligations.BeamPositionAfterTicks := by
  intro s n hs hfrac hline hcyc hlen
  obtain ⟨t, ht, hparams, hbeam⟩ := tick_unadjusted n ⟨hs, hfrac, hlen⟩
  have hstart : s.beam = 0 := by simp [State.beam, hline, hcyc]
  rw [hstart, Nat.zero_add] at ht hbeam
  rw [State.beam, hparams] at hbeam
  exact ⟨t, ht, hbeam⟩

end Sys2Proof.Machine
end

section
/-! PROOFS. The statement of spec/42_background.md: the background pass and its closed form agree at every slot. -/

namespace Sys2Proof.Machine

/-- Settles O42: the loop of R190 column by column, then the left mask of R198, slot by slot. -/
theorem backgroundSlotIsTheScrolledPixel : Obligations.BackgroundSlotIsTheScrolledPixel :=
  bgPass_get

end Sys2Proof.Machine
end

section
/-! PROOFS. The statements of spec/43_sprites.md: the sprite pass and its closed form agree at every slot and in both flags. The
scan loop of R210 draws the contributors in index order (`spriteResult_eq`); what they leave follows by induction over them
(`drawSprites_get`, `drawSprites_collision`). -/

namespace Sys2Proof.Machine

/-- Settles O44: the scan loop against the covering sprites before the terminator, of which a ninth sets the flag. -/
theorem overflowIffANinthSpriteCoversTheLine : Obligations.OverflowIffANinthSpriteCoversTheLine :=
  spritePass_overflow

/-- Settles O45: the contributors drawn in index order, the first with a pixel at the slot takes it if it is free. -/
theorem spriteSlotGoesToTheLowestIndex : Obligations.SpriteSlotGoesToTheLowestIndex :=
  spritePass_get

/-- Settles O46: the contributors drawn in index order over background fields that no sprite changes. -/
theorem collisionIffSpriteMeetsOpaqueBackground : Obligations.CollisionIffSpriteMeetsOpaqueBackground :=
  spritePass_collision

end Sys2Proof.Machine
end

section
/-! PROOFS. The statements of spec/44_output.md: the words the output pass writes and keeps (R230, R236), and the colours it
writes (R233 to R235). The words follow from `outputPass_fbWord`, which says both through `fbIndex`; the colours from one lemma per
scaling, the value a channel has by its bits. -/

namespace Sys2Proof.Machine

/-! ### The words no column of a line has -/

section

variable {s : State} {L j : Nat}

/-- On Master System a line has its own 256 words only (R236). -/
theorem fbIndex_ne_of_outside_sms (hg : s.gameGear = false) (hj : j < L * 256 ∨ L * 256 + 256 ≤ j) :
    ∀ X < 256, s.fbIndex L X ≠ some j := by
  intro X hX e
  rw [fbIndex_sms hg, Option.some.injEq] at e
  omega

/-- On Game Gear a line has its own 160 words at most (R236). -/
theorem fbIndex_ne_of_outside_gg (hg : s.gameGear = true) (hj : j < (L - 24) * 160 ∨ (L - 24) * 160 + 160 ≤ j) (X : Nat) :
    s.fbIndex L X ≠ some j := by
  intro e
  rw [fbIndex_gg hg, Option.ite_none_right_eq_some, Option.some.injEq] at e
  omega

/-- On Game Gear a line above or below the window has no word (R236). -/
theorem fbIndex_ne_of_cropped_line (hg : s.gameGear = true) (hL : L < 24 ∨ 167 < L) (X : Nat) : s.fbIndex L X ≠ some j := by
  intro e
  rw [fbIndex_gg hg, Option.ite_none_right_eq_some] at e
  omega

end

/-- Settles O47: by the strap and the window, which word a column has and which words no column has. -/
theorem outputPassWritesExactlyTheLinesWords : Obligations.OutputPassWritesExactlyTheLinesWords := by
  intro s L
  have hwritten {X : Fin 256} {j : Nat} (h : s.fbIndex L X.val = some j) := (outputPass_fbWord s L j).1 X h
  have hkept {j : Nat} (h : ∀ X < 256, s.fbIndex L X ≠ some j) := (outputPass_fbWord s L j).2 h
  refine ⟨fun hg => ⟨fun X => ?_, fun j hj => ?_⟩, fun hg h24 h167 => ⟨fun X h48 h207 => ?_, fun j hj => ?_⟩,
    fun hg hL j => ?_⟩
  · exact hwritten (fbIndex_sms hg L X)
  · exact hkept (fbIndex_ne_of_outside_sms hg hj)
  · exact hwritten (by rw [fbIndex_gg hg, if_pos ⟨h24, h167, h48, h207⟩])
  · exact hkept fun X _ => fbIndex_ne_of_outside_gg hg hj X
  · exact hkept fun X _ => fbIndex_ne_of_cropped_line hg hL X

/-! ### The scaled channels (R233, R234) -/

/-- The 2-bit field at bit k, scaled: 255 / 3 = 85 times its value (R233). -/
theorem scale2_field {n : Nat} (x : BitVec n) (k : Nat) :
    (scale2 (x.extractLsb' k 2).toNat).toNat = 85 * (x.toNat / 2 ^ k % 4) := by
  rw [scale2, BitVec.toNat_ofNat, BitVec.extractLsb'_toNat, Nat.shiftRight_eq_div_pow]
  omega

/-- The 4-bit field at bit k, scaled: 255 / 15 = 17 times its value (R234). -/
theorem scale4_field {n : Nat} (x : BitVec n) (k : Nat) :
    (scale4 (x.extractLsb' k 4).toNat).toNat = 17 * (x.toNat / 2 ^ k % 16) := by
  rw [scale4, BitVec.toNat_ofNat, BitVec.extractLsb'_toNat, Nat.shiftRight_eq_div_pow]
  omega

/-- The Game Gear word is little-endian (R67). -/
theorem ggWord_toNat (s : State) (e : Nat) :
    (s.ggWord e).toNat = (s.cramByte (2 * e + 1)).toNat * 256 + (s.cramByte (2 * e)).toNat := by
  rw [State.ggWord, BitVec.toNat_append, ← Nat.shiftLeft_add_eq_or_of_lt (s.cramByte (2 * e)).isLt, Nat.shiftLeft_eq]

theorem colour_sms {s : State} (hg : s.gameGear = false) (e : Nat) : s.colour e = smsColour (s.cramByte e) := by
  simp [State.colour, hg]

theorem colour_gg {s : State} (hg : s.gameGear = true) (e : Nat) : s.colour e = ggColour (s.ggWord e) := by
  simp [State.colour, hg]

/-- Every colour is opaque (R235). -/
theorem colour_alpha (s : State) (e : Nat) : (s.colour e).a = 0xFF := by
  cases hg : s.gameGear
  · rw [colour_sms hg, smsColour]
  · rw [colour_gg hg, ggColour]

/-- Settles O51: by the strap, each channel is its scaled field; on Game Gear the fields of a word are those of its bytes. -/
theorem coloursAreTheScaledChannels : Obligations.ColoursAreTheScaledChannels := by
  intro s e
  refine ⟨colour_alpha s e, fun hg => ?_, fun hg => ?_⟩
  · rw [colour_sms hg]
    simp only [smsColour, scale2_field]
    refine ⟨?_, ?_, ?_⟩ <;> omega
  · have hlow := (s.cramByte (2 * e)).isLt
    have hword := ggWord_toNat s e
    rw [colour_gg hg]
    simp only [ggColour, scale4_field]
    refine ⟨?_, ?_, ?_⟩ <;> omega

end Sys2Proof.Machine
end

section
/-! PROOFS. The statements of spec/60_exceptions.md: what is refused and what is answered (R250, R251), the step without a label
(R264), and the RequestINT event against the INT level (R255, R256). -/

namespace Sys2Proof.Machine

open Sys2Proof.Config

/-! ### What is refused and what is answered (R250, R251, R264) -/

/-- Settles O6: such a step is `idle`, which clears the outputs only. -/
theorem stepWithoutALabelKeepsAllState : Obligations.StepWithoutALabelKeepsAllState :=
  step_idle

/-- Settles O9: every operation but RESET is its effect behind the check of R250. -/
theorem onlyResetIsAcceptedBeforeReset : Obligations.OnlyResetIsAcceptedBeforeReset := fun s i hi hr =>
  (exec_eq_whenInitialised s hr).trans (whenInitialised_before s (effect i) hi)

/-- No operation leaves the block uninitialised: RESET initialises it, and the others do not write the element (R47). -/
theorem effect_initialised (i : Instr) {s : State} (h : s.initialised = true) : (effect i s).initialised = true := by
  by_cases hr : ∃ g p, i = .reset g p
  · obtain ⟨g, p, rfl⟩ := hr
    rfl
  · obtain ⟨-, -, hinit, -⟩ := effect_straps (i := i) (s := s) fun g p e => hr ⟨g, p, e⟩
    rw [hinit, h]

/-- An initialised block answers every operation and stays initialised (R250, R251). -/
theorem exec_completes (i : Instr) {s : State} (h : s.initialised = true) :
    ∃ t, exec i s = .next t ∧ t.initialised = true :=
  ⟨_, exec_of_initialised i s h, effect_initialised i (s := s.beginStep) h⟩

/-- Settles O10: a step is idle or runs one operation, and taking the label from the input leaves `initialised` alone. -/
theorem everyStepCompletesAfterReset : Obligations.EveryStepCompletesAfterReset := by
  intro s h
  refine ⟨fun i => exec_completes i h, ?_⟩
  cases hin : s.input with
  | nil => exact ⟨_, step_idle s hin, h⟩
  | cons p rest =>
    rw [step_label s p rest hin]
    exact exec_completes _ h

/-! ### The steps that can emit an event (R256, R162, R126) -/

/-- The events of a step are those it began with, but for RESET, a line end and a register write. -/
theorem effect_events {i : Instr} {s : State} (hr : ∀ g p, i ≠ .reset g p) :
    (effect i s).out.events = s.out.events ∨ (i = .clock ∧ s.atLineEnd = true) ∨ (∃ u r v, i = .cmdWriteReg u r v) ∨
      ∃ b, i = .writeControl b ∧ s.latch ≠ .empty := by
  cases i with
  | reset g p => exact absurd rfl (hr g p)
  | clock =>
    cases hc : s.atLineEnd
    · exact .inl (by rw [effect, clockEffect_inside s hc])
    · exact .inr (.inl ⟨rfl, rfl⟩)
  | writeData b =>
    obtain ⟨vram, cram, e⟩ := effect_writeData_eq b s
    exact .inl (by rw [e])
  | writeControl b =>
    by_cases hl : s.latch = .empty
    · exact .inl (by rw [effect_writeControl_empty b hl])
    · exact .inr (.inr (.inr ⟨b, rfl, hl⟩))
  | cmdWriteReg u r v => exact .inr (.inr (.inl ⟨u, r, v, rfl⟩))
  | _ => exact .inl rfl

/-! ### Each emitting action leaves INT at 1 (R256) -/

/-- INT is 1 exactly while a source is pending with its enable set (R253, R254, R255). -/
theorem intLevel_iff (s : State) : s.intLevel = true ↔
    (s.linePending = true ∧ (s.reg 0).getLsbD 4 = true) ∨ (s.framePending = true ∧ (s.reg 1).getLsbD 5 = true) := by
  simp [State.intLevel, State.lineIrq, State.frameIrq, State.lineEnable, State.frameEnable]

section

variable {s : State}

/-- A line end that emits a RequestINT has set the pending flag of an enabled source (R157, R161). -/
theorem lineEnd_intLevel (hquiet : s.out.events = []) (h : Event.requestInt ∈ (lineEnd s).out.events) :
    (lineEnd s).intLevel = true := by
  have hsource : (s.line.toNat ≤ s.params.lcLastDecLine ∧ s.lineCounter = 0#8 ∧ s.lineEnable = true) ∨
      (s.line.toNat = activeEnd ∧ s.frameEnable = true) := by
    simpa [hquiet] using h
  rw [intLevel_iff, lineEnd_linePending, lineEnd_framePending, lineEnd_reg, lineEnd_reg]
  rcases hsource with ⟨hL, hzero, henable⟩ | ⟨hL, henable⟩
  · exact .inl ⟨by simp [hL, hzero], henable⟩
  · exact .inr ⟨by simp [hL], henable⟩

/-- A register write that emits a RequestINT has set the enable of a pending source (R126). -/
theorem writeRegister_intLevel {idx : BitVec 4} {v : Byte} (hquiet : s.out.events = [])
    (h : Event.requestInt ∈ (s.writeRegister idx v).out.events) : (s.writeRegister idx v).intLevel = true := by
  obtain ⟨regs, out, e⟩ := writeRegister_frame s idx v
  have hline : (s.writeRegister idx v).linePending = s.linePending := by rw [e]
  have hframe : (s.writeRegister idx v).framePending = s.framePending := by rw [e]
  rw [writeRegister_events, hquiet, List.nil_append] at h
  rw [intLevel_iff, hline, hframe, writeRegister_reg, writeRegister_reg]
  split_ifs at h with hsource
  · rcases hsource with ⟨rfl, -, hset, hpending⟩ | ⟨rfl, -, hset, hpending⟩
    · exact .inl ⟨hpending, hset⟩
    · exact .inr ⟨hpending, hset⟩
  · cases h

/-- Of the per-code actions of R123 only the register write emits. -/
theorem commandAction_intLevel (hquiet : s.out.events = []) (h : Event.requestInt ∈ s.commandAction.out.events) :
    s.commandAction.intLevel = true := by
  cases hcode : s.code with
  | writeReg =>
    simp only [State.commandAction, hcode] at h ⊢
    exact writeRegister_intLevel hquiet h
  | _ => simp [State.commandAction, hcode, hquiet] at h

/-- A CLOCK that ends a line and emits a RequestINT leaves INT at 1 (R151, R256). -/
theorem effect_clock_intLevel (hc : s.atLineEnd = true)
    (h : Event.requestInt ∈ (effect .clock s.beginStep).out.events) : (effect .clock s.beginStep).intLevel = true := by
  rcases effect_clock s with ⟨-, e⟩ | ⟨hnot, -⟩
  · rw [e] at h ⊢
    exact lineEnd_intLevel (s := s.counted) rfl h
  · rw [hc] at hnot
    cases hnot

/-- A second control byte that emits a RequestINT leaves INT at 1 (R123, R256). -/
theorem effect_writeControl_intLevel {b : Byte} (hl : s.latch ≠ .empty)
    (h : Event.requestInt ∈ (effect (.writeControl b) s.beginStep).out.events) :
    (effect (.writeControl b) s.beginStep).intLevel = true := by
  cases hlatch : s.latch with
  | empty => exact absurd hlatch hl
  | halfFull lo =>
    rw [effect_writeControl_halfFull b (s := s.beginStep) hlatch] at h ⊢
    exact commandAction_intLevel rfl h

end

/-- Settles O40: a step begins with no events, so the event names its step; each of the three leaves INT at 1. -/
theorem requestIntImpliesTheIntLevel : Obligations.RequestIntImpliesTheIntLevel := by
  intro i s t ht hreq
  rcases exec_next_reset_or ht with ⟨g, p, rfl, rfl⟩ | ⟨hr, rfl⟩
  · cases hreq
  rcases effect_events (s := s.beginStep) hr with hnone | hemits
  · rw [hnone] at hreq
    cases hreq
  have hint : (effect i s.beginStep).intLevel = true := by
    rcases hemits with ⟨rfl, hend⟩ | ⟨u, r, v, rfl⟩ | ⟨b, rfl, hl⟩
    · exact effect_clock_intLevel hend hreq
    · exact writeRegister_intLevel (s := s.beginStep.loadCommand .writeReg (u ++ r ++ v)) rfl hreq
    · exact effect_writeControl_intLevel hl hreq
  exact ⟨(intLevel_iff _).1 hint, hint, hemits⟩

end Sys2Proof.Machine
end
